-- ==== Sys2Proof/Word.lean ====
section
/-! DEFINITION. The machine's words (R7, R8, R20): a byte, a 16-bit word, a 12-bit address immediate and a
4-bit field, all unsigned, bit 0 the least significant. -/

namespace Sys2Proof

/-- An 8-bit value: a register, a timer, a memory byte, the immediate KK. -/
abbrev Byte := BitVec 8

/-- A 16-bit value: `index`, `pc`, a stack entry, an instruction word. -/
abbrev Word := BitVec 16

/-- The 12-bit immediate NNN. -/
abbrev Addr12 := BitVec 12

/-- A 4-bit value: the row count N, a selector digit. -/
abbrev Nibble := BitVec 4

/-- The number of a general register, V0 to VF; every value is legal (R93, R107). -/
abbrev RegNum := BitVec 4

end Sys2Proof
end

