-- ==== Sys2Proof/Machine/Flags.lean ====
section
/-! DEFINITION. The values written to VF as a flag (R22, R157 to R161): always 0 or 1. Operands are read as
exact unsigned integers (R8). -/

namespace Sys2Proof.Machine

/-- 1 for true, 0 for false. -/
def flagByte (b : Bool) : Byte := if b then 1 else 0

/-- The carry of 8XY4: whether the exact sum passes 255 (R157). -/
def carryFlag (a b : Byte) : Byte := flagByte (decide (a.toNat + b.toNat > 255))

/-- The flag of 8XY5 and 8XY7: whether the minuend is strictly greater (R158, R160). -/
def greaterFlag (minuend subtrahend : Byte) : Byte := flagByte (decide (minuend.toNat > subtrahend.toNat))

/-- The bit 8XY6 shifts out, bit 0 (R159). -/
def lowBitFlag (a : Byte) : Byte := flagByte (a.getLsbD 0)

/-- The bit 8XYE shifts out, bit 7 (R161). -/
def highBitFlag (a : Byte) : Byte := flagByte (a.getLsbD 7)

/-- The flag of DXYN (R202). -/
def collisionFlag (collision : Bool) : Byte := flagByte collision

end Sys2Proof.Machine
end

