-- ==== Sys2Proof/Syntax.lean ====
section
/-! DEFINITION. The instruction set: one constructor per row of spec/opcode_table.json, in the table's order.
`op<pattern>` is the instruction the source names by that pattern (R102, R103); its arguments are the row's
fields. `nop<pattern>` is one of the 282 rows of unassigned words, each of which executes as a no-op
(R100, R129). Bits the decoder does not examine, or the handler does not use and the row lists as no field,
are not part of an instruction (R101; log entry 9). -/

namespace Sys2Proof

inductive Instr where
  /-- 00E0, clear screen (R201). -/
  | op00E0
  /-- 00EE, return (R121). -/
  | op00EE
  /-- 1NNN, jump (R122). -/
  | op1NNN (nnn : Addr12)
  /-- 2NNN, call (R123). -/
  | op2NNN (nnn : Addr12)
  /-- 3XKK, skip if register equals byte (R124). -/
  | op3XKK (x : RegNum) (kk : Byte)
  /-- 4XKK, skip if register differs from byte (R125). -/
  | op4XKK (x : RegNum) (kk : Byte)
  /-- 5XY0, skip if registers equal (R126). -/
  | op5XY0 (x : RegNum) (y : RegNum)
  /-- 6XKK, load byte (R151). -/
  | op6XKK (x : RegNum) (kk : Byte)
  /-- 7XKK, add byte, no flag (R152). -/
  | op7XKK (x : RegNum) (kk : Byte)
  /-- 8XY0, copy register (R153). -/
  | op8XY0 (x : RegNum) (y : RegNum)
  /-- 8XY1, or (R154). -/
  | op8XY1 (x : RegNum) (y : RegNum)
  /-- 8XY2, and (R155). -/
  | op8XY2 (x : RegNum) (y : RegNum)
  /-- 8XY3, exclusive or (R156). -/
  | op8XY3 (x : RegNum) (y : RegNum)
  /-- 8XY4, add with carry flag (R157). -/
  | op8XY4 (x : RegNum) (y : RegNum)
  /-- 8XY5, subtract, VX minus VY (R158). -/
  | op8XY5 (x : RegNum) (y : RegNum)
  /-- 8XY6, shift right by one (R159). -/
  | op8XY6 (x : RegNum) (y : RegNum)
  /-- 8XY7, subtract, VY minus VX (R160). -/
  | op8XY7 (x : RegNum) (y : RegNum)
  /-- 8XYE, shift left by one (R161). -/
  | op8XYE (x : RegNum) (y : RegNum)
  /-- 9XY0, skip if registers differ (R127). -/
  | op9XY0 (x : RegNum) (y : RegNum)
  /-- ANNN, load index (R180). -/
  | opANNN (nnn : Addr12)
  /-- BNNN, jump with V0 offset (R128). -/
  | opBNNN (nnn : Addr12)
  /-- CXKK, random byte and mask (R162). -/
  | opCXKK (x : RegNum) (kk : Byte)
  /-- DXYN, draw sprite (R202). -/
  | opDXYN (x : RegNum) (y : RegNum) (n : Nibble)
  /-- EX9E, skip if key pressed (R220). -/
  | opEX9E (x : RegNum)
  /-- EXA1, skip if key not pressed (R221). -/
  | opEXA1 (x : RegNum)
  /-- FX07, read delay timer (R223). -/
  | opFX07 (x : RegNum)
  /-- FX0A, wait for key (R222). -/
  | opFX0A (x : RegNum)
  /-- FX15, set delay timer (R224). -/
  | opFX15 (x : RegNum)
  /-- FX18, set sound timer (R225). -/
  | opFX18 (x : RegNum)
  /-- FX1E, add to index (R181). -/
  | opFX1E (x : RegNum)
  /-- FX29, index of font glyph (R182). -/
  | opFX29 (x : RegNum)
  /-- FX33, store decimal digits (R183). -/
  | opFX33 (x : RegNum)
  /-- FX55, store registers (R184). -/
  | opFX55 (x : RegNum)
  /-- FX65, load registers (R185). -/
  | opFX65 (x : RegNum)
  -- Unassigned words (R100): family 0, then 8, then E, then F.
  | nop0NN1
  | nop0NN2
  | nop0NN3
  | nop0NN4
  | nop0NN5
  | nop0NN6
  | nop0NN7
  | nop0NN8
  | nop0NN9
  | nop0NNA
  | nop0NNB
  | nop0NNC
  | nop0NND
  | nop0NNF
  | nop8XY8
  | nop8XY9
  | nop8XYA
  | nop8XYB
  | nop8XYC
  | nop8XYD
  | nop8XYF
  | nopEXN0
  | nopEXN2
  | nopEXN3
  | nopEXN4
  | nopEXN5
  | nopEXN6
  | nopEXN7
  | nopEXN8
  | nopEXN9
  | nopEXNA
  | nopEXNB
  | nopEXNC
  | nopEXND
  | nopEXNF
  | nopFX00
  | nopFX01
  | nopFX02
  | nopFX03
  | nopFX04
  | nopFX05
  | nopFX06
  | nopFX08
  | nopFX09
  | nopFX0B
  | nopFX0C
  | nopFX0D
  | nopFX0E
  | nopFX0F
  | nopFX10
  | nopFX11
  | nopFX12
  | nopFX13
  | nopFX14
  | nopFX16
  | nopFX17
  | nopFX19
  | nopFX1A
  | nopFX1B
  | nopFX1C
  | nopFX1D
  | nopFX1F
  | nopFX20
  | nopFX21
  | nopFX22
  | nopFX23
  | nopFX24
  | nopFX25
  | nopFX26
  | nopFX27
  | nopFX28
  | nopFX2A
  | nopFX2B
  | nopFX2C
  | nopFX2D
  | nopFX2E
  | nopFX2F
  | nopFX30
  | nopFX31
  | nopFX32
  | nopFX34
  | nopFX35
  | nopFX36
  | nopFX37
  | nopFX38
  | nopFX39
  | nopFX3A
  | nopFX3B
  | nopFX3C
  | nopFX3D
  | nopFX3E
  | nopFX3F
  | nopFX40
  | nopFX41
  | nopFX42
  | nopFX43
  | nopFX44
  | nopFX45
  | nopFX46
  | nopFX47
  | nopFX48
  | nopFX49
  | nopFX4A
  | nopFX4B
  | nopFX4C
  | nopFX4D
  | nopFX4E
  | nopFX4F
  | nopFX50
  | nopFX51
  | nopFX52
  | nopFX53
  | nopFX54
  | nopFX56
  | nopFX57
  | nopFX58
  | nopFX59
  | nopFX5A
  | nopFX5B
  | nopFX5C
  | nopFX5D
  | nopFX5E
  | nopFX5F
  | nopFX60
  | nopFX61
  | nopFX62
  | nopFX63
  | nopFX64
  | nopFX66
  | nopFX67
  | nopFX68
  | nopFX69
  | nopFX6A
  | nopFX6B
  | nopFX6C
  | nopFX6D
  | nopFX6E
  | nopFX6F
  | nopFX70
  | nopFX71
  | nopFX72
  | nopFX73
  | nopFX74
  | nopFX75
  | nopFX76
  | nopFX77
  | nopFX78
  | nopFX79
  | nopFX7A
  | nopFX7B
  | nopFX7C
  | nopFX7D
  | nopFX7E
  | nopFX7F
  | nopFX80
  | nopFX81
  | nopFX82
  | nopFX83
  | nopFX84
  | nopFX85
  | nopFX86
  | nopFX87
  | nopFX88
  | nopFX89
  | nopFX8A
  | nopFX8B
  | nopFX8C
  | nopFX8D
  | nopFX8E
  | nopFX8F
  | nopFX90
  | nopFX91
  | nopFX92
  | nopFX93
  | nopFX94
  | nopFX95
  | nopFX96
  | nopFX97
  | nopFX98
  | nopFX99
  | nopFX9A
  | nopFX9B
  | nopFX9C
  | nopFX9D
  | nopFX9E
  | nopFX9F
  | nopFXA0
  | nopFXA1
  | nopFXA2
  | nopFXA3
  | nopFXA4
  | nopFXA5
  | nopFXA6
  | nopFXA7
  | nopFXA8
  | nopFXA9
  | nopFXAA
  | nopFXAB
  | nopFXAC
  | nopFXAD
  | nopFXAE
  | nopFXAF
  | nopFXB0
  | nopFXB1
  | nopFXB2
  | nopFXB3
  | nopFXB4
  | nopFXB5
  | nopFXB6
  | nopFXB7
  | nopFXB8
  | nopFXB9
  | nopFXBA
  | nopFXBB
  | nopFXBC
  | nopFXBD
  | nopFXBE
  | nopFXBF
  | nopFXC0
  | nopFXC1
  | nopFXC2
  | nopFXC3
  | nopFXC4
  | nopFXC5
  | nopFXC6
  | nopFXC7
  | nopFXC8
  | nopFXC9
  | nopFXCA
  | nopFXCB
  | nopFXCC
  | nopFXCD
  | nopFXCE
  | nopFXCF
  | nopFXD0
  | nopFXD1
  | nopFXD2
  | nopFXD3
  | nopFXD4
  | nopFXD5
  | nopFXD6
  | nopFXD7
  | nopFXD8
  | nopFXD9
  | nopFXDA
  | nopFXDB
  | nopFXDC
  | nopFXDD
  | nopFXDE
  | nopFXDF
  | nopFXE0
  | nopFXE1
  | nopFXE2
  | nopFXE3
  | nopFXE4
  | nopFXE5
  | nopFXE6
  | nopFXE7
  | nopFXE8
  | nopFXE9
  | nopFXEA
  | nopFXEB
  | nopFXEC
  | nopFXED
  | nopFXEE
  | nopFXEF
  | nopFXF0
  | nopFXF1
  | nopFXF2
  | nopFXF3
  | nopFXF4
  | nopFXF5
  | nopFXF6
  | nopFXF7
  | nopFXF8
  | nopFXF9
  | nopFXFA
  | nopFXFB
  | nopFXFC
  | nopFXFD
  | nopFXFE
  | nopFXFF
  deriving DecidableEq, Repr

end Sys2Proof
end

