-- ==== Sys2Proof/Decode.lean ====
section
/-! DEFINITION. Decoding and encoding (spec/30_encoding.md), and the match and mask of each row of
spec/opcode_table.json. The decoder follows the two-level dispatch of R94 to R99 and is total: each of the
65536 words selects exactly one row (R106). In the matches of a selector the last arm, written `_`, stands for
the one value not listed before it (0xF of a digit, 0xFF of a byte). -/

namespace Sys2Proof

/-! ## Fields of an instruction word (R91) -/

/-- The family, bits 15:12. -/
def familyOf (w : Word) : Nibble := w.extractLsb' 12 4
/-- X, bits 11:8. -/
def fieldX (w : Word) : RegNum := w.extractLsb' 8 4
/-- Y, bits 7:4. -/
def fieldY (w : Word) : RegNum := w.extractLsb' 4 4
/-- N, bits 3:0; also the secondary selector of families 0, 8 and E. -/
def fieldN (w : Word) : Nibble := w.extractLsb' 0 4
/-- KK, bits 7:0; also the secondary selector of family F. -/
def fieldKK (w : Word) : Byte := w.extractLsb' 0 8
/-- NNN, bits 11:0. -/
def fieldNNN (w : Word) : Addr12 := w.extractLsb' 0 12

/-! ## Secondary dispatch -/

/-- Family 0: the selector is bits 3:0; bits 11:4 are not examined (R95). -/
def decodeFamily0 (n : Nibble) : Instr :=
  match n.toNat with
  | 0x0 => .op00E0
  | 0x1 => .nop0NN1
  | 0x2 => .nop0NN2
  | 0x3 => .nop0NN3
  | 0x4 => .nop0NN4
  | 0x5 => .nop0NN5
  | 0x6 => .nop0NN6
  | 0x7 => .nop0NN7
  | 0x8 => .nop0NN8
  | 0x9 => .nop0NN9
  | 0xA => .nop0NNA
  | 0xB => .nop0NNB
  | 0xC => .nop0NNC
  | 0xD => .nop0NND
  | 0xE => .op00EE
  | _ => .nop0NNF

/-- Family 8: the selector is bits 3:0 (R96). -/
def decodeFamily8 (x y : RegNum) (n : Nibble) : Instr :=
  match n.toNat with
  | 0x0 => .op8XY0 x y
  | 0x1 => .op8XY1 x y
  | 0x2 => .op8XY2 x y
  | 0x3 => .op8XY3 x y
  | 0x4 => .op8XY4 x y
  | 0x5 => .op8XY5 x y
  | 0x6 => .op8XY6 x y
  | 0x7 => .op8XY7 x y
  | 0x8 => .nop8XY8
  | 0x9 => .nop8XY9
  | 0xA => .nop8XYA
  | 0xB => .nop8XYB
  | 0xC => .nop8XYC
  | 0xD => .nop8XYD
  | 0xE => .op8XYE x y
  | _ => .nop8XYF

/-- Family E: the selector is bits 3:0; bits 7:4 are not examined (R97). -/
def decodeFamilyE (x : RegNum) (n : Nibble) : Instr :=
  match n.toNat with
  | 0x0 => .nopEXN0
  | 0x1 => .opEXA1 x
  | 0x2 => .nopEXN2
  | 0x3 => .nopEXN3
  | 0x4 => .nopEXN4
  | 0x5 => .nopEXN5
  | 0x6 => .nopEXN6
  | 0x7 => .nopEXN7
  | 0x8 => .nopEXN8
  | 0x9 => .nopEXN9
  | 0xA => .nopEXNA
  | 0xB => .nopEXNB
  | 0xC => .nopEXNC
  | 0xD => .nopEXND
  | 0xE => .opEX9E x
  | _ => .nopEXNF

/-- Family F: the selector is the low byte (R98). -/
def decodeFamilyF (x : RegNum) (kk : Byte) : Instr :=
  match kk.toNat with
  | 0x00 => .nopFX00
  | 0x01 => .nopFX01
  | 0x02 => .nopFX02
  | 0x03 => .nopFX03
  | 0x04 => .nopFX04
  | 0x05 => .nopFX05
  | 0x06 => .nopFX06
  | 0x07 => .opFX07 x
  | 0x08 => .nopFX08
  | 0x09 => .nopFX09
  | 0x0A => .opFX0A x
  | 0x0B => .nopFX0B
  | 0x0C => .nopFX0C
  | 0x0D => .nopFX0D
  | 0x0E => .nopFX0E
  | 0x0F => .nopFX0F
  | 0x10 => .nopFX10
  | 0x11 => .nopFX11
  | 0x12 => .nopFX12
  | 0x13 => .nopFX13
  | 0x14 => .nopFX14
  | 0x15 => .opFX15 x
  | 0x16 => .nopFX16
  | 0x17 => .nopFX17
  | 0x18 => .opFX18 x
  | 0x19 => .nopFX19
  | 0x1A => .nopFX1A
  | 0x1B => .nopFX1B
  | 0x1C => .nopFX1C
  | 0x1D => .nopFX1D
  | 0x1E => .opFX1E x
  | 0x1F => .nopFX1F
  | 0x20 => .nopFX20
  | 0x21 => .nopFX21
  | 0x22 => .nopFX22
  | 0x23 => .nopFX23
  | 0x24 => .nopFX24
  | 0x25 => .nopFX25
  | 0x26 => .nopFX26
  | 0x27 => .nopFX27
  | 0x28 => .nopFX28
  | 0x29 => .opFX29 x
  | 0x2A => .nopFX2A
  | 0x2B => .nopFX2B
  | 0x2C => .nopFX2C
  | 0x2D => .nopFX2D
  | 0x2E => .nopFX2E
  | 0x2F => .nopFX2F
  | 0x30 => .nopFX30
  | 0x31 => .nopFX31
  | 0x32 => .nopFX32
  | 0x33 => .opFX33 x
  | 0x34 => .nopFX34
  | 0x35 => .nopFX35
  | 0x36 => .nopFX36
  | 0x37 => .nopFX37
  | 0x38 => .nopFX38
  | 0x39 => .nopFX39
  | 0x3A => .nopFX3A
  | 0x3B => .nopFX3B
  | 0x3C => .nopFX3C
  | 0x3D => .nopFX3D
  | 0x3E => .nopFX3E
  | 0x3F => .nopFX3F
  | 0x40 => .nopFX40
  | 0x41 => .nopFX41
  | 0x42 => .nopFX42
  | 0x43 => .nopFX43
  | 0x44 => .nopFX44
  | 0x45 => .nopFX45
  | 0x46 => .nopFX46
  | 0x47 => .nopFX47
  | 0x48 => .nopFX48
  | 0x49 => .nopFX49
  | 0x4A => .nopFX4A
  | 0x4B => .nopFX4B
  | 0x4C => .nopFX4C
  | 0x4D => .nopFX4D
  | 0x4E => .nopFX4E
  | 0x4F => .nopFX4F
  | 0x50 => .nopFX50
  | 0x51 => .nopFX51
  | 0x52 => .nopFX52
  | 0x53 => .nopFX53
  | 0x54 => .nopFX54
  | 0x55 => .opFX55 x
  | 0x56 => .nopFX56
  | 0x57 => .nopFX57
  | 0x58 => .nopFX58
  | 0x59 => .nopFX59
  | 0x5A => .nopFX5A
  | 0x5B => .nopFX5B
  | 0x5C => .nopFX5C
  | 0x5D => .nopFX5D
  | 0x5E => .nopFX5E
  | 0x5F => .nopFX5F
  | 0x60 => .nopFX60
  | 0x61 => .nopFX61
  | 0x62 => .nopFX62
  | 0x63 => .nopFX63
  | 0x64 => .nopFX64
  | 0x65 => .opFX65 x
  | 0x66 => .nopFX66
  | 0x67 => .nopFX67
  | 0x68 => .nopFX68
  | 0x69 => .nopFX69
  | 0x6A => .nopFX6A
  | 0x6B => .nopFX6B
  | 0x6C => .nopFX6C
  | 0x6D => .nopFX6D
  | 0x6E => .nopFX6E
  | 0x6F => .nopFX6F
  | 0x70 => .nopFX70
  | 0x71 => .nopFX71
  | 0x72 => .nopFX72
  | 0x73 => .nopFX73
  | 0x74 => .nopFX74
  | 0x75 => .nopFX75
  | 0x76 => .nopFX76
  | 0x77 => .nopFX77
  | 0x78 => .nopFX78
  | 0x79 => .nopFX79
  | 0x7A => .nopFX7A
  | 0x7B => .nopFX7B
  | 0x7C => .nopFX7C
  | 0x7D => .nopFX7D
  | 0x7E => .nopFX7E
  | 0x7F => .nopFX7F
  | 0x80 => .nopFX80
  | 0x81 => .nopFX81
  | 0x82 => .nopFX82
  | 0x83 => .nopFX83
  | 0x84 => .nopFX84
  | 0x85 => .nopFX85
  | 0x86 => .nopFX86
  | 0x87 => .nopFX87
  | 0x88 => .nopFX88
  | 0x89 => .nopFX89
  | 0x8A => .nopFX8A
  | 0x8B => .nopFX8B
  | 0x8C => .nopFX8C
  | 0x8D => .nopFX8D
  | 0x8E => .nopFX8E
  | 0x8F => .nopFX8F
  | 0x90 => .nopFX90
  | 0x91 => .nopFX91
  | 0x92 => .nopFX92
  | 0x93 => .nopFX93
  | 0x94 => .nopFX94
  | 0x95 => .nopFX95
  | 0x96 => .nopFX96
  | 0x97 => .nopFX97
  | 0x98 => .nopFX98
  | 0x99 => .nopFX99
  | 0x9A => .nopFX9A
  | 0x9B => .nopFX9B
  | 0x9C => .nopFX9C
  | 0x9D => .nopFX9D
  | 0x9E => .nopFX9E
  | 0x9F => .nopFX9F
  | 0xA0 => .nopFXA0
  | 0xA1 => .nopFXA1
  | 0xA2 => .nopFXA2
  | 0xA3 => .nopFXA3
  | 0xA4 => .nopFXA4
  | 0xA5 => .nopFXA5
  | 0xA6 => .nopFXA6
  | 0xA7 => .nopFXA7
  | 0xA8 => .nopFXA8
  | 0xA9 => .nopFXA9
  | 0xAA => .nopFXAA
  | 0xAB => .nopFXAB
  | 0xAC => .nopFXAC
  | 0xAD => .nopFXAD
  | 0xAE => .nopFXAE
  | 0xAF => .nopFXAF
  | 0xB0 => .nopFXB0
  | 0xB1 => .nopFXB1
  | 0xB2 => .nopFXB2
  | 0xB3 => .nopFXB3
  | 0xB4 => .nopFXB4
  | 0xB5 => .nopFXB5
  | 0xB6 => .nopFXB6
  | 0xB7 => .nopFXB7
  | 0xB8 => .nopFXB8
  | 0xB9 => .nopFXB9
  | 0xBA => .nopFXBA
  | 0xBB => .nopFXBB
  | 0xBC => .nopFXBC
  | 0xBD => .nopFXBD
  | 0xBE => .nopFXBE
  | 0xBF => .nopFXBF
  | 0xC0 => .nopFXC0
  | 0xC1 => .nopFXC1
  | 0xC2 => .nopFXC2
  | 0xC3 => .nopFXC3
  | 0xC4 => .nopFXC4
  | 0xC5 => .nopFXC5
  | 0xC6 => .nopFXC6
  | 0xC7 => .nopFXC7
  | 0xC8 => .nopFXC8
  | 0xC9 => .nopFXC9
  | 0xCA => .nopFXCA
  | 0xCB => .nopFXCB
  | 0xCC => .nopFXCC
  | 0xCD => .nopFXCD
  | 0xCE => .nopFXCE
  | 0xCF => .nopFXCF
  | 0xD0 => .nopFXD0
  | 0xD1 => .nopFXD1
  | 0xD2 => .nopFXD2
  | 0xD3 => .nopFXD3
  | 0xD4 => .nopFXD4
  | 0xD5 => .nopFXD5
  | 0xD6 => .nopFXD6
  | 0xD7 => .nopFXD7
  | 0xD8 => .nopFXD8
  | 0xD9 => .nopFXD9
  | 0xDA => .nopFXDA
  | 0xDB => .nopFXDB
  | 0xDC => .nopFXDC
  | 0xDD => .nopFXDD
  | 0xDE => .nopFXDE
  | 0xDF => .nopFXDF
  | 0xE0 => .nopFXE0
  | 0xE1 => .nopFXE1
  | 0xE2 => .nopFXE2
  | 0xE3 => .nopFXE3
  | 0xE4 => .nopFXE4
  | 0xE5 => .nopFXE5
  | 0xE6 => .nopFXE6
  | 0xE7 => .nopFXE7
  | 0xE8 => .nopFXE8
  | 0xE9 => .nopFXE9
  | 0xEA => .nopFXEA
  | 0xEB => .nopFXEB
  | 0xEC => .nopFXEC
  | 0xED => .nopFXED
  | 0xEE => .nopFXEE
  | 0xEF => .nopFXEF
  | 0xF0 => .nopFXF0
  | 0xF1 => .nopFXF1
  | 0xF2 => .nopFXF2
  | 0xF3 => .nopFXF3
  | 0xF4 => .nopFXF4
  | 0xF5 => .nopFXF5
  | 0xF6 => .nopFXF6
  | 0xF7 => .nopFXF7
  | 0xF8 => .nopFXF8
  | 0xF9 => .nopFXF9
  | 0xFA => .nopFXFA
  | 0xFB => .nopFXFB
  | 0xFC => .nopFXFC
  | 0xFD => .nopFXFD
  | 0xFE => .nopFXFE
  | _ => .nopFXFF

/-! ## Primary dispatch -/

/-- The instruction an instruction word selects (R94). Families 5 and 9 do not examine bits 3:0 (R99). -/
def decodeWord (w : Word) : Instr :=
  match (familyOf w).toNat with
  | 0x0 => decodeFamily0 (fieldN w)
  | 0x1 => .op1NNN (fieldNNN w)
  | 0x2 => .op2NNN (fieldNNN w)
  | 0x3 => .op3XKK (fieldX w) (fieldKK w)
  | 0x4 => .op4XKK (fieldX w) (fieldKK w)
  | 0x5 => .op5XY0 (fieldX w) (fieldY w)
  | 0x6 => .op6XKK (fieldX w) (fieldKK w)
  | 0x7 => .op7XKK (fieldX w) (fieldKK w)
  | 0x8 => decodeFamily8 (fieldX w) (fieldY w) (fieldN w)
  | 0x9 => .op9XY0 (fieldX w) (fieldY w)
  | 0xA => .opANNN (fieldNNN w)
  | 0xB => .opBNNN (fieldNNN w)
  | 0xC => .opCXKK (fieldX w) (fieldKK w)
  | 0xD => .opDXYN (fieldX w) (fieldY w) (fieldN w)
  | 0xE => decodeFamilyE (fieldX w) (fieldN w)
  | _ => decodeFamilyF (fieldX w) (fieldKK w)

/-- The word at two consecutive bytes, the high byte first (R62, R90). -/
def wordOfBytes (hi lo : Byte) : Word := hi ++ lo

/-- Why a byte sequence is not an instruction. The decoder itself never refuses a word (R106). -/
inductive DecodeRejection where
  /-- Fewer than the two bytes every instruction has (R90). -/
  | truncated
  deriving DecidableEq, Repr

/-- The instruction at the head of a byte sequence, and the bytes after it. -/
def decode : List Byte → Except DecodeRejection (Instr × List Byte)
  | hi :: lo :: rest => .ok (decodeWord (wordOfBytes hi lo), rest)
  | _ => .error .truncated

/-! ## Encoding -/

/-- The word of an instruction: the canonical encoding of R101 and R102, and for an unassigned row the row's
match word, free bits 0 (DESIGN CHOICE, log entry 9). -/
def encode : Instr → Word
  | .op00E0 => 0x00E0#16
  | .op00EE => 0x00EE#16
  | .op1NNN nnn => 0x1#4 ++ nnn
  | .op2NNN nnn => 0x2#4 ++ nnn
  | .op3XKK x kk => 0x3#4 ++ x ++ kk
  | .op4XKK x kk => 0x4#4 ++ x ++ kk
  | .op5XY0 x y => 0x5#4 ++ x ++ y ++ 0x0#4
  | .op6XKK x kk => 0x6#4 ++ x ++ kk
  | .op7XKK x kk => 0x7#4 ++ x ++ kk
  | .op8XY0 x y => 0x8#4 ++ x ++ y ++ 0x0#4
  | .op8XY1 x y => 0x8#4 ++ x ++ y ++ 0x1#4
  | .op8XY2 x y => 0x8#4 ++ x ++ y ++ 0x2#4
  | .op8XY3 x y => 0x8#4 ++ x ++ y ++ 0x3#4
  | .op8XY4 x y => 0x8#4 ++ x ++ y ++ 0x4#4
  | .op8XY5 x y => 0x8#4 ++ x ++ y ++ 0x5#4
  | .op8XY6 x y => 0x8#4 ++ x ++ y ++ 0x6#4
  | .op8XY7 x y => 0x8#4 ++ x ++ y ++ 0x7#4
  | .op8XYE x y => 0x8#4 ++ x ++ y ++ 0xE#4
  | .op9XY0 x y => 0x9#4 ++ x ++ y ++ 0x0#4
  | .opANNN nnn => 0xA#4 ++ nnn
  | .opBNNN nnn => 0xB#4 ++ nnn
  | .opCXKK x kk => 0xC#4 ++ x ++ kk
  | .opDXYN x y n => 0xD#4 ++ x ++ y ++ n
  | .opEX9E x => 0xE#4 ++ x ++ 0x9E#8
  | .opEXA1 x => 0xE#4 ++ x ++ 0xA1#8
  | .opFX07 x => 0xF#4 ++ x ++ 0x07#8
  | .opFX0A x => 0xF#4 ++ x ++ 0x0A#8
  | .opFX15 x => 0xF#4 ++ x ++ 0x15#8
  | .opFX18 x => 0xF#4 ++ x ++ 0x18#8
  | .opFX1E x => 0xF#4 ++ x ++ 0x1E#8
  | .opFX29 x => 0xF#4 ++ x ++ 0x29#8
  | .opFX33 x => 0xF#4 ++ x ++ 0x33#8
  | .opFX55 x => 0xF#4 ++ x ++ 0x55#8
  | .opFX65 x => 0xF#4 ++ x ++ 0x65#8
  | .nop0NN1 => 0x0001#16
  | .nop0NN2 => 0x0002#16
  | .nop0NN3 => 0x0003#16
  | .nop0NN4 => 0x0004#16
  | .nop0NN5 => 0x0005#16
  | .nop0NN6 => 0x0006#16
  | .nop0NN7 => 0x0007#16
  | .nop0NN8 => 0x0008#16
  | .nop0NN9 => 0x0009#16
  | .nop0NNA => 0x000A#16
  | .nop0NNB => 0x000B#16
  | .nop0NNC => 0x000C#16
  | .nop0NND => 0x000D#16
  | .nop0NNF => 0x000F#16
  | .nop8XY8 => 0x8008#16
  | .nop8XY9 => 0x8009#16
  | .nop8XYA => 0x800A#16
  | .nop8XYB => 0x800B#16
  | .nop8XYC => 0x800C#16
  | .nop8XYD => 0x800D#16
  | .nop8XYF => 0x800F#16
  | .nopEXN0 => 0xE000#16
  | .nopEXN2 => 0xE002#16
  | .nopEXN3 => 0xE003#16
  | .nopEXN4 => 0xE004#16
  | .nopEXN5 => 0xE005#16
  | .nopEXN6 => 0xE006#16
  | .nopEXN7 => 0xE007#16
  | .nopEXN8 => 0xE008#16
  | .nopEXN9 => 0xE009#16
  | .nopEXNA => 0xE00A#16
  | .nopEXNB => 0xE00B#16
  | .nopEXNC => 0xE00C#16
  | .nopEXND => 0xE00D#16
  | .nopEXNF => 0xE00F#16
  | .nopFX00 => 0xF000#16
  | .nopFX01 => 0xF001#16
  | .nopFX02 => 0xF002#16
  | .nopFX03 => 0xF003#16
  | .nopFX04 => 0xF004#16
  | .nopFX05 => 0xF005#16
  | .nopFX06 => 0xF006#16
  | .nopFX08 => 0xF008#16
  | .nopFX09 => 0xF009#16
  | .nopFX0B => 0xF00B#16
  | .nopFX0C => 0xF00C#16
  | .nopFX0D => 0xF00D#16
  | .nopFX0E => 0xF00E#16
  | .nopFX0F => 0xF00F#16
  | .nopFX10 => 0xF010#16
  | .nopFX11 => 0xF011#16
  | .nopFX12 => 0xF012#16
  | .nopFX13 => 0xF013#16
  | .nopFX14 => 0xF014#16
  | .nopFX16 => 0xF016#16
  | .nopFX17 => 0xF017#16
  | .nopFX19 => 0xF019#16
  | .nopFX1A => 0xF01A#16
  | .nopFX1B => 0xF01B#16
  | .nopFX1C => 0xF01C#16
  | .nopFX1D => 0xF01D#16
  | .nopFX1F => 0xF01F#16
  | .nopFX20 => 0xF020#16
  | .nopFX21 => 0xF021#16
  | .nopFX22 => 0xF022#16
  | .nopFX23 => 0xF023#16
  | .nopFX24 => 0xF024#16
  | .nopFX25 => 0xF025#16
  | .nopFX26 => 0xF026#16
  | .nopFX27 => 0xF027#16
  | .nopFX28 => 0xF028#16
  | .nopFX2A => 0xF02A#16
  | .nopFX2B => 0xF02B#16
  | .nopFX2C => 0xF02C#16
  | .nopFX2D => 0xF02D#16
  | .nopFX2E => 0xF02E#16
  | .nopFX2F => 0xF02F#16
  | .nopFX30 => 0xF030#16
  | .nopFX31 => 0xF031#16
  | .nopFX32 => 0xF032#16
  | .nopFX34 => 0xF034#16
  | .nopFX35 => 0xF035#16
  | .nopFX36 => 0xF036#16
  | .nopFX37 => 0xF037#16
  | .nopFX38 => 0xF038#16
  | .nopFX39 => 0xF039#16
  | .nopFX3A => 0xF03A#16
  | .nopFX3B => 0xF03B#16
  | .nopFX3C => 0xF03C#16
  | .nopFX3D => 0xF03D#16
  | .nopFX3E => 0xF03E#16
  | .nopFX3F => 0xF03F#16
  | .nopFX40 => 0xF040#16
  | .nopFX41 => 0xF041#16
  | .nopFX42 => 0xF042#16
  | .nopFX43 => 0xF043#16
  | .nopFX44 => 0xF044#16
  | .nopFX45 => 0xF045#16
  | .nopFX46 => 0xF046#16
  | .nopFX47 => 0xF047#16
  | .nopFX48 => 0xF048#16
  | .nopFX49 => 0xF049#16
  | .nopFX4A => 0xF04A#16
  | .nopFX4B => 0xF04B#16
  | .nopFX4C => 0xF04C#16
  | .nopFX4D => 0xF04D#16
  | .nopFX4E => 0xF04E#16
  | .nopFX4F => 0xF04F#16
  | .nopFX50 => 0xF050#16
  | .nopFX51 => 0xF051#16
  | .nopFX52 => 0xF052#16
  | .nopFX53 => 0xF053#16
  | .nopFX54 => 0xF054#16
  | .nopFX56 => 0xF056#16
  | .nopFX57 => 0xF057#16
  | .nopFX58 => 0xF058#16
  | .nopFX59 => 0xF059#16
  | .nopFX5A => 0xF05A#16
  | .nopFX5B => 0xF05B#16
  | .nopFX5C => 0xF05C#16
  | .nopFX5D => 0xF05D#16
  | .nopFX5E => 0xF05E#16
  | .nopFX5F => 0xF05F#16
  | .nopFX60 => 0xF060#16
  | .nopFX61 => 0xF061#16
  | .nopFX62 => 0xF062#16
  | .nopFX63 => 0xF063#16
  | .nopFX64 => 0xF064#16
  | .nopFX66 => 0xF066#16
  | .nopFX67 => 0xF067#16
  | .nopFX68 => 0xF068#16
  | .nopFX69 => 0xF069#16
  | .nopFX6A => 0xF06A#16
  | .nopFX6B => 0xF06B#16
  | .nopFX6C => 0xF06C#16
  | .nopFX6D => 0xF06D#16
  | .nopFX6E => 0xF06E#16
  | .nopFX6F => 0xF06F#16
  | .nopFX70 => 0xF070#16
  | .nopFX71 => 0xF071#16
  | .nopFX72 => 0xF072#16
  | .nopFX73 => 0xF073#16
  | .nopFX74 => 0xF074#16
  | .nopFX75 => 0xF075#16
  | .nopFX76 => 0xF076#16
  | .nopFX77 => 0xF077#16
  | .nopFX78 => 0xF078#16
  | .nopFX79 => 0xF079#16
  | .nopFX7A => 0xF07A#16
  | .nopFX7B => 0xF07B#16
  | .nopFX7C => 0xF07C#16
  | .nopFX7D => 0xF07D#16
  | .nopFX7E => 0xF07E#16
  | .nopFX7F => 0xF07F#16
  | .nopFX80 => 0xF080#16
  | .nopFX81 => 0xF081#16
  | .nopFX82 => 0xF082#16
  | .nopFX83 => 0xF083#16
  | .nopFX84 => 0xF084#16
  | .nopFX85 => 0xF085#16
  | .nopFX86 => 0xF086#16
  | .nopFX87 => 0xF087#16
  | .nopFX88 => 0xF088#16
  | .nopFX89 => 0xF089#16
  | .nopFX8A => 0xF08A#16
  | .nopFX8B => 0xF08B#16
  | .nopFX8C => 0xF08C#16
  | .nopFX8D => 0xF08D#16
  | .nopFX8E => 0xF08E#16
  | .nopFX8F => 0xF08F#16
  | .nopFX90 => 0xF090#16
  | .nopFX91 => 0xF091#16
  | .nopFX92 => 0xF092#16
  | .nopFX93 => 0xF093#16
  | .nopFX94 => 0xF094#16
  | .nopFX95 => 0xF095#16
  | .nopFX96 => 0xF096#16
  | .nopFX97 => 0xF097#16
  | .nopFX98 => 0xF098#16
  | .nopFX99 => 0xF099#16
  | .nopFX9A => 0xF09A#16
  | .nopFX9B => 0xF09B#16
  | .nopFX9C => 0xF09C#16
  | .nopFX9D => 0xF09D#16
  | .nopFX9E => 0xF09E#16
  | .nopFX9F => 0xF09F#16
  | .nopFXA0 => 0xF0A0#16
  | .nopFXA1 => 0xF0A1#16
  | .nopFXA2 => 0xF0A2#16
  | .nopFXA3 => 0xF0A3#16
  | .nopFXA4 => 0xF0A4#16
  | .nopFXA5 => 0xF0A5#16
  | .nopFXA6 => 0xF0A6#16
  | .nopFXA7 => 0xF0A7#16
  | .nopFXA8 => 0xF0A8#16
  | .nopFXA9 => 0xF0A9#16
  | .nopFXAA => 0xF0AA#16
  | .nopFXAB => 0xF0AB#16
  | .nopFXAC => 0xF0AC#16
  | .nopFXAD => 0xF0AD#16
  | .nopFXAE => 0xF0AE#16
  | .nopFXAF => 0xF0AF#16
  | .nopFXB0 => 0xF0B0#16
  | .nopFXB1 => 0xF0B1#16
  | .nopFXB2 => 0xF0B2#16
  | .nopFXB3 => 0xF0B3#16
  | .nopFXB4 => 0xF0B4#16
  | .nopFXB5 => 0xF0B5#16
  | .nopFXB6 => 0xF0B6#16
  | .nopFXB7 => 0xF0B7#16
  | .nopFXB8 => 0xF0B8#16
  | .nopFXB9 => 0xF0B9#16
  | .nopFXBA => 0xF0BA#16
  | .nopFXBB => 0xF0BB#16
  | .nopFXBC => 0xF0BC#16
  | .nopFXBD => 0xF0BD#16
  | .nopFXBE => 0xF0BE#16
  | .nopFXBF => 0xF0BF#16
  | .nopFXC0 => 0xF0C0#16
  | .nopFXC1 => 0xF0C1#16
  | .nopFXC2 => 0xF0C2#16
  | .nopFXC3 => 0xF0C3#16
  | .nopFXC4 => 0xF0C4#16
  | .nopFXC5 => 0xF0C5#16
  | .nopFXC6 => 0xF0C6#16
  | .nopFXC7 => 0xF0C7#16
  | .nopFXC8 => 0xF0C8#16
  | .nopFXC9 => 0xF0C9#16
  | .nopFXCA => 0xF0CA#16
  | .nopFXCB => 0xF0CB#16
  | .nopFXCC => 0xF0CC#16
  | .nopFXCD => 0xF0CD#16
  | .nopFXCE => 0xF0CE#16
  | .nopFXCF => 0xF0CF#16
  | .nopFXD0 => 0xF0D0#16
  | .nopFXD1 => 0xF0D1#16
  | .nopFXD2 => 0xF0D2#16
  | .nopFXD3 => 0xF0D3#16
  | .nopFXD4 => 0xF0D4#16
  | .nopFXD5 => 0xF0D5#16
  | .nopFXD6 => 0xF0D6#16
  | .nopFXD7 => 0xF0D7#16
  | .nopFXD8 => 0xF0D8#16
  | .nopFXD9 => 0xF0D9#16
  | .nopFXDA => 0xF0DA#16
  | .nopFXDB => 0xF0DB#16
  | .nopFXDC => 0xF0DC#16
  | .nopFXDD => 0xF0DD#16
  | .nopFXDE => 0xF0DE#16
  | .nopFXDF => 0xF0DF#16
  | .nopFXE0 => 0xF0E0#16
  | .nopFXE1 => 0xF0E1#16
  | .nopFXE2 => 0xF0E2#16
  | .nopFXE3 => 0xF0E3#16
  | .nopFXE4 => 0xF0E4#16
  | .nopFXE5 => 0xF0E5#16
  | .nopFXE6 => 0xF0E6#16
  | .nopFXE7 => 0xF0E7#16
  | .nopFXE8 => 0xF0E8#16
  | .nopFXE9 => 0xF0E9#16
  | .nopFXEA => 0xF0EA#16
  | .nopFXEB => 0xF0EB#16
  | .nopFXEC => 0xF0EC#16
  | .nopFXED => 0xF0ED#16
  | .nopFXEE => 0xF0EE#16
  | .nopFXEF => 0xF0EF#16
  | .nopFXF0 => 0xF0F0#16
  | .nopFXF1 => 0xF0F1#16
  | .nopFXF2 => 0xF0F2#16
  | .nopFXF3 => 0xF0F3#16
  | .nopFXF4 => 0xF0F4#16
  | .nopFXF5 => 0xF0F5#16
  | .nopFXF6 => 0xF0F6#16
  | .nopFXF7 => 0xF0F7#16
  | .nopFXF8 => 0xF0F8#16
  | .nopFXF9 => 0xF0F9#16
  | .nopFXFA => 0xF0FA#16
  | .nopFXFB => 0xF0FB#16
  | .nopFXFC => 0xF0FC#16
  | .nopFXFD => 0xF0FD#16
  | .nopFXFE => 0xF0FE#16
  | .nopFXFF => 0xF0FF#16

/-- The two bytes of a word, the high byte first (R62, R90). -/
def bytesOfWord (w : Word) : List Byte := [w.extractLsb' 8 8, w.extractLsb' 0 8]

/-- The bytes of an instruction, as memory holds them. -/
def encodeBytes (i : Instr) : List Byte := bytesOfWord (encode i)

/-! ## The opcode map (R102) -/

/-- What a row of the table stands for: one of the 34 instructions or a group of unassigned words. -/
inductive RowKind where
  | instruction
  | unassigned
  deriving DecidableEq, Repr

/-- A row of spec/opcode_table.json: a word `w` selects it when `w &&& mask = pattern`. -/
structure Row where
  mask : Word
  pattern : Word
  kind : RowKind
  deriving DecidableEq, Repr

/-- The row of an instruction. -/
def Instr.row : Instr → Row
  | .op00E0 => ⟨0xF00F, 0x0000, .instruction⟩
  | .op00EE => ⟨0xF00F, 0x000E, .instruction⟩
  | .op1NNN _ => ⟨0xF000, 0x1000, .instruction⟩
  | .op2NNN _ => ⟨0xF000, 0x2000, .instruction⟩
  | .op3XKK _ _ => ⟨0xF000, 0x3000, .instruction⟩
  | .op4XKK _ _ => ⟨0xF000, 0x4000, .instruction⟩
  | .op5XY0 _ _ => ⟨0xF000, 0x5000, .instruction⟩
  | .op6XKK _ _ => ⟨0xF000, 0x6000, .instruction⟩
  | .op7XKK _ _ => ⟨0xF000, 0x7000, .instruction⟩
  | .op8XY0 _ _ => ⟨0xF00F, 0x8000, .instruction⟩
  | .op8XY1 _ _ => ⟨0xF00F, 0x8001, .instruction⟩
  | .op8XY2 _ _ => ⟨0xF00F, 0x8002, .instruction⟩
  | .op8XY3 _ _ => ⟨0xF00F, 0x8003, .instruction⟩
  | .op8XY4 _ _ => ⟨0xF00F, 0x8004, .instruction⟩
  | .op8XY5 _ _ => ⟨0xF00F, 0x8005, .instruction⟩
  | .op8XY6 _ _ => ⟨0xF00F, 0x8006, .instruction⟩
  | .op8XY7 _ _ => ⟨0xF00F, 0x8007, .instruction⟩
  | .op8XYE _ _ => ⟨0xF00F, 0x800E, .instruction⟩
  | .op9XY0 _ _ => ⟨0xF000, 0x9000, .instruction⟩
  | .opANNN _ => ⟨0xF000, 0xA000, .instruction⟩
  | .opBNNN _ => ⟨0xF000, 0xB000, .instruction⟩
  | .opCXKK _ _ => ⟨0xF000, 0xC000, .instruction⟩
  | .opDXYN _ _ _ => ⟨0xF000, 0xD000, .instruction⟩
  | .opEX9E _ => ⟨0xF00F, 0xE00E, .instruction⟩
  | .opEXA1 _ => ⟨0xF00F, 0xE001, .instruction⟩
  | .opFX07 _ => ⟨0xF0FF, 0xF007, .instruction⟩
  | .opFX0A _ => ⟨0xF0FF, 0xF00A, .instruction⟩
  | .opFX15 _ => ⟨0xF0FF, 0xF015, .instruction⟩
  | .opFX18 _ => ⟨0xF0FF, 0xF018, .instruction⟩
  | .opFX1E _ => ⟨0xF0FF, 0xF01E, .instruction⟩
  | .opFX29 _ => ⟨0xF0FF, 0xF029, .instruction⟩
  | .opFX33 _ => ⟨0xF0FF, 0xF033, .instruction⟩
  | .opFX55 _ => ⟨0xF0FF, 0xF055, .instruction⟩
  | .opFX65 _ => ⟨0xF0FF, 0xF065, .instruction⟩
  | .nop0NN1 => ⟨0xF00F, 0x0001, .unassigned⟩
  | .nop0NN2 => ⟨0xF00F, 0x0002, .unassigned⟩
  | .nop0NN3 => ⟨0xF00F, 0x0003, .unassigned⟩
  | .nop0NN4 => ⟨0xF00F, 0x0004, .unassigned⟩
  | .nop0NN5 => ⟨0xF00F, 0x0005, .unassigned⟩
  | .nop0NN6 => ⟨0xF00F, 0x0006, .unassigned⟩
  | .nop0NN7 => ⟨0xF00F, 0x0007, .unassigned⟩
  | .nop0NN8 => ⟨0xF00F, 0x0008, .unassigned⟩
  | .nop0NN9 => ⟨0xF00F, 0x0009, .unassigned⟩
  | .nop0NNA => ⟨0xF00F, 0x000A, .unassigned⟩
  | .nop0NNB => ⟨0xF00F, 0x000B, .unassigned⟩
  | .nop0NNC => ⟨0xF00F, 0x000C, .unassigned⟩
  | .nop0NND => ⟨0xF00F, 0x000D, .unassigned⟩
  | .nop0NNF => ⟨0xF00F, 0x000F, .unassigned⟩
  | .nop8XY8 => ⟨0xF00F, 0x8008, .unassigned⟩
  | .nop8XY9 => ⟨0xF00F, 0x8009, .unassigned⟩
  | .nop8XYA => ⟨0xF00F, 0x800A, .unassigned⟩
  | .nop8XYB => ⟨0xF00F, 0x800B, .unassigned⟩
  | .nop8XYC => ⟨0xF00F, 0x800C, .unassigned⟩
  | .nop8XYD => ⟨0xF00F, 0x800D, .unassigned⟩
  | .nop8XYF => ⟨0xF00F, 0x800F, .unassigned⟩
  | .nopEXN0 => ⟨0xF00F, 0xE000, .unassigned⟩
  | .nopEXN2 => ⟨0xF00F, 0xE002, .unassigned⟩
  | .nopEXN3 => ⟨0xF00F, 0xE003, .unassigned⟩
  | .nopEXN4 => ⟨0xF00F, 0xE004, .unassigned⟩
  | .nopEXN5 => ⟨0xF00F, 0xE005, .unassigned⟩
  | .nopEXN6 => ⟨0xF00F, 0xE006, .unassigned⟩
  | .nopEXN7 => ⟨0xF00F, 0xE007, .unassigned⟩
  | .nopEXN8 => ⟨0xF00F, 0xE008, .unassigned⟩
  | .nopEXN9 => ⟨0xF00F, 0xE009, .unassigned⟩
  | .nopEXNA => ⟨0xF00F, 0xE00A, .unassigned⟩
  | .nopEXNB => ⟨0xF00F, 0xE00B, .unassigned⟩
  | .nopEXNC => ⟨0xF00F, 0xE00C, .unassigned⟩
  | .nopEXND => ⟨0xF00F, 0xE00D, .unassigned⟩
  | .nopEXNF => ⟨0xF00F, 0xE00F, .unassigned⟩
  | .nopFX00 => ⟨0xF0FF, 0xF000, .unassigned⟩
  | .nopFX01 => ⟨0xF0FF, 0xF001, .unassigned⟩
  | .nopFX02 => ⟨0xF0FF, 0xF002, .unassigned⟩
  | .nopFX03 => ⟨0xF0FF, 0xF003, .unassigned⟩
  | .nopFX04 => ⟨0xF0FF, 0xF004, .unassigned⟩
  | .nopFX05 => ⟨0xF0FF, 0xF005, .unassigned⟩
  | .nopFX06 => ⟨0xF0FF, 0xF006, .unassigned⟩
  | .nopFX08 => ⟨0xF0FF, 0xF008, .unassigned⟩
  | .nopFX09 => ⟨0xF0FF, 0xF009, .unassigned⟩
  | .nopFX0B => ⟨0xF0FF, 0xF00B, .unassigned⟩
  | .nopFX0C => ⟨0xF0FF, 0xF00C, .unassigned⟩
  | .nopFX0D => ⟨0xF0FF, 0xF00D, .unassigned⟩
  | .nopFX0E => ⟨0xF0FF, 0xF00E, .unassigned⟩
  | .nopFX0F => ⟨0xF0FF, 0xF00F, .unassigned⟩
  | .nopFX10 => ⟨0xF0FF, 0xF010, .unassigned⟩
  | .nopFX11 => ⟨0xF0FF, 0xF011, .unassigned⟩
  | .nopFX12 => ⟨0xF0FF, 0xF012, .unassigned⟩
  | .nopFX13 => ⟨0xF0FF, 0xF013, .unassigned⟩
  | .nopFX14 => ⟨0xF0FF, 0xF014, .unassigned⟩
  | .nopFX16 => ⟨0xF0FF, 0xF016, .unassigned⟩
  | .nopFX17 => ⟨0xF0FF, 0xF017, .unassigned⟩
  | .nopFX19 => ⟨0xF0FF, 0xF019, .unassigned⟩
  | .nopFX1A => ⟨0xF0FF, 0xF01A, .unassigned⟩
  | .nopFX1B => ⟨0xF0FF, 0xF01B, .unassigned⟩
  | .nopFX1C => ⟨0xF0FF, 0xF01C, .unassigned⟩
  | .nopFX1D => ⟨0xF0FF, 0xF01D, .unassigned⟩
  | .nopFX1F => ⟨0xF0FF, 0xF01F, .unassigned⟩
  | .nopFX20 => ⟨0xF0FF, 0xF020, .unassigned⟩
  | .nopFX21 => ⟨0xF0FF, 0xF021, .unassigned⟩
  | .nopFX22 => ⟨0xF0FF, 0xF022, .unassigned⟩
  | .nopFX23 => ⟨0xF0FF, 0xF023, .unassigned⟩
  | .nopFX24 => ⟨0xF0FF, 0xF024, .unassigned⟩
  | .nopFX25 => ⟨0xF0FF, 0xF025, .unassigned⟩
  | .nopFX26 => ⟨0xF0FF, 0xF026, .unassigned⟩
  | .nopFX27 => ⟨0xF0FF, 0xF027, .unassigned⟩
  | .nopFX28 => ⟨0xF0FF, 0xF028, .unassigned⟩
  | .nopFX2A => ⟨0xF0FF, 0xF02A, .unassigned⟩
  | .nopFX2B => ⟨0xF0FF, 0xF02B, .unassigned⟩
  | .nopFX2C => ⟨0xF0FF, 0xF02C, .unassigned⟩
  | .nopFX2D => ⟨0xF0FF, 0xF02D, .unassigned⟩
  | .nopFX2E => ⟨0xF0FF, 0xF02E, .unassigned⟩
  | .nopFX2F => ⟨0xF0FF, 0xF02F, .unassigned⟩
  | .nopFX30 => ⟨0xF0FF, 0xF030, .unassigned⟩
  | .nopFX31 => ⟨0xF0FF, 0xF031, .unassigned⟩
  | .nopFX32 => ⟨0xF0FF, 0xF032, .unassigned⟩
  | .nopFX34 => ⟨0xF0FF, 0xF034, .unassigned⟩
  | .nopFX35 => ⟨0xF0FF, 0xF035, .unassigned⟩
  | .nopFX36 => ⟨0xF0FF, 0xF036, .unassigned⟩
  | .nopFX37 => ⟨0xF0FF, 0xF037, .unassigned⟩
  | .nopFX38 => ⟨0xF0FF, 0xF038, .unassigned⟩
  | .nopFX39 => ⟨0xF0FF, 0xF039, .unassigned⟩
  | .nopFX3A => ⟨0xF0FF, 0xF03A, .unassigned⟩
  | .nopFX3B => ⟨0xF0FF, 0xF03B, .unassigned⟩
  | .nopFX3C => ⟨0xF0FF, 0xF03C, .unassigned⟩
  | .nopFX3D => ⟨0xF0FF, 0xF03D, .unassigned⟩
  | .nopFX3E => ⟨0xF0FF, 0xF03E, .unassigned⟩
  | .nopFX3F => ⟨0xF0FF, 0xF03F, .unassigned⟩
  | .nopFX40 => ⟨0xF0FF, 0xF040, .unassigned⟩
  | .nopFX41 => ⟨0xF0FF, 0xF041, .unassigned⟩
  | .nopFX42 => ⟨0xF0FF, 0xF042, .unassigned⟩
  | .nopFX43 => ⟨0xF0FF, 0xF043, .unassigned⟩
  | .nopFX44 => ⟨0xF0FF, 0xF044, .unassigned⟩
  | .nopFX45 => ⟨0xF0FF, 0xF045, .unassigned⟩
  | .nopFX46 => ⟨0xF0FF, 0xF046, .unassigned⟩
  | .nopFX47 => ⟨0xF0FF, 0xF047, .unassigned⟩
  | .nopFX48 => ⟨0xF0FF, 0xF048, .unassigned⟩
  | .nopFX49 => ⟨0xF0FF, 0xF049, .unassigned⟩
  | .nopFX4A => ⟨0xF0FF, 0xF04A, .unassigned⟩
  | .nopFX4B => ⟨0xF0FF, 0xF04B, .unassigned⟩
  | .nopFX4C => ⟨0xF0FF, 0xF04C, .unassigned⟩
  | .nopFX4D => ⟨0xF0FF, 0xF04D, .unassigned⟩
  | .nopFX4E => ⟨0xF0FF, 0xF04E, .unassigned⟩
  | .nopFX4F => ⟨0xF0FF, 0xF04F, .unassigned⟩
  | .nopFX50 => ⟨0xF0FF, 0xF050, .unassigned⟩
  | .nopFX51 => ⟨0xF0FF, 0xF051, .unassigned⟩
  | .nopFX52 => ⟨0xF0FF, 0xF052, .unassigned⟩
  | .nopFX53 => ⟨0xF0FF, 0xF053, .unassigned⟩
  | .nopFX54 => ⟨0xF0FF, 0xF054, .unassigned⟩
  | .nopFX56 => ⟨0xF0FF, 0xF056, .unassigned⟩
  | .nopFX57 => ⟨0xF0FF, 0xF057, .unassigned⟩
  | .nopFX58 => ⟨0xF0FF, 0xF058, .unassigned⟩
  | .nopFX59 => ⟨0xF0FF, 0xF059, .unassigned⟩
  | .nopFX5A => ⟨0xF0FF, 0xF05A, .unassigned⟩
  | .nopFX5B => ⟨0xF0FF, 0xF05B, .unassigned⟩
  | .nopFX5C => ⟨0xF0FF, 0xF05C, .unassigned⟩
  | .nopFX5D => ⟨0xF0FF, 0xF05D, .unassigned⟩
  | .nopFX5E => ⟨0xF0FF, 0xF05E, .unassigned⟩
  | .nopFX5F => ⟨0xF0FF, 0xF05F, .unassigned⟩
  | .nopFX60 => ⟨0xF0FF, 0xF060, .unassigned⟩
  | .nopFX61 => ⟨0xF0FF, 0xF061, .unassigned⟩
  | .nopFX62 => ⟨0xF0FF, 0xF062, .unassigned⟩
  | .nopFX63 => ⟨0xF0FF, 0xF063, .unassigned⟩
  | .nopFX64 => ⟨0xF0FF, 0xF064, .unassigned⟩
  | .nopFX66 => ⟨0xF0FF, 0xF066, .unassigned⟩
  | .nopFX67 => ⟨0xF0FF, 0xF067, .unassigned⟩
  | .nopFX68 => ⟨0xF0FF, 0xF068, .unassigned⟩
  | .nopFX69 => ⟨0xF0FF, 0xF069, .unassigned⟩
  | .nopFX6A => ⟨0xF0FF, 0xF06A, .unassigned⟩
  | .nopFX6B => ⟨0xF0FF, 0xF06B, .unassigned⟩
  | .nopFX6C => ⟨0xF0FF, 0xF06C, .unassigned⟩
  | .nopFX6D => ⟨0xF0FF, 0xF06D, .unassigned⟩
  | .nopFX6E => ⟨0xF0FF, 0xF06E, .unassigned⟩
  | .nopFX6F => ⟨0xF0FF, 0xF06F, .unassigned⟩
  | .nopFX70 => ⟨0xF0FF, 0xF070, .unassigned⟩
  | .nopFX71 => ⟨0xF0FF, 0xF071, .unassigned⟩
  | .nopFX72 => ⟨0xF0FF, 0xF072, .unassigned⟩
  | .nopFX73 => ⟨0xF0FF, 0xF073, .unassigned⟩
  | .nopFX74 => ⟨0xF0FF, 0xF074, .unassigned⟩
  | .nopFX75 => ⟨0xF0FF, 0xF075, .unassigned⟩
  | .nopFX76 => ⟨0xF0FF, 0xF076, .unassigned⟩
  | .nopFX77 => ⟨0xF0FF, 0xF077, .unassigned⟩
  | .nopFX78 => ⟨0xF0FF, 0xF078, .unassigned⟩
  | .nopFX79 => ⟨0xF0FF, 0xF079, .unassigned⟩
  | .nopFX7A => ⟨0xF0FF, 0xF07A, .unassigned⟩
  | .nopFX7B => ⟨0xF0FF, 0xF07B, .unassigned⟩
  | .nopFX7C => ⟨0xF0FF, 0xF07C, .unassigned⟩
  | .nopFX7D => ⟨0xF0FF, 0xF07D, .unassigned⟩
  | .nopFX7E => ⟨0xF0FF, 0xF07E, .unassigned⟩
  | .nopFX7F => ⟨0xF0FF, 0xF07F, .unassigned⟩
  | .nopFX80 => ⟨0xF0FF, 0xF080, .unassigned⟩
  | .nopFX81 => ⟨0xF0FF, 0xF081, .unassigned⟩
  | .nopFX82 => ⟨0xF0FF, 0xF082, .unassigned⟩
  | .nopFX83 => ⟨0xF0FF, 0xF083, .unassigned⟩
  | .nopFX84 => ⟨0xF0FF, 0xF084, .unassigned⟩
  | .nopFX85 => ⟨0xF0FF, 0xF085, .unassigned⟩
  | .nopFX86 => ⟨0xF0FF, 0xF086, .unassigned⟩
  | .nopFX87 => ⟨0xF0FF, 0xF087, .unassigned⟩
  | .nopFX88 => ⟨0xF0FF, 0xF088, .unassigned⟩
  | .nopFX89 => ⟨0xF0FF, 0xF089, .unassigned⟩
  | .nopFX8A => ⟨0xF0FF, 0xF08A, .unassigned⟩
  | .nopFX8B => ⟨0xF0FF, 0xF08B, .unassigned⟩
  | .nopFX8C => ⟨0xF0FF, 0xF08C, .unassigned⟩
  | .nopFX8D => ⟨0xF0FF, 0xF08D, .unassigned⟩
  | .nopFX8E => ⟨0xF0FF, 0xF08E, .unassigned⟩
  | .nopFX8F => ⟨0xF0FF, 0xF08F, .unassigned⟩
  | .nopFX90 => ⟨0xF0FF, 0xF090, .unassigned⟩
  | .nopFX91 => ⟨0xF0FF, 0xF091, .unassigned⟩
  | .nopFX92 => ⟨0xF0FF, 0xF092, .unassigned⟩
  | .nopFX93 => ⟨0xF0FF, 0xF093, .unassigned⟩
  | .nopFX94 => ⟨0xF0FF, 0xF094, .unassigned⟩
  | .nopFX95 => ⟨0xF0FF, 0xF095, .unassigned⟩
  | .nopFX96 => ⟨0xF0FF, 0xF096, .unassigned⟩
  | .nopFX97 => ⟨0xF0FF, 0xF097, .unassigned⟩
  | .nopFX98 => ⟨0xF0FF, 0xF098, .unassigned⟩
  | .nopFX99 => ⟨0xF0FF, 0xF099, .unassigned⟩
  | .nopFX9A => ⟨0xF0FF, 0xF09A, .unassigned⟩
  | .nopFX9B => ⟨0xF0FF, 0xF09B, .unassigned⟩
  | .nopFX9C => ⟨0xF0FF, 0xF09C, .unassigned⟩
  | .nopFX9D => ⟨0xF0FF, 0xF09D, .unassigned⟩
  | .nopFX9E => ⟨0xF0FF, 0xF09E, .unassigned⟩
  | .nopFX9F => ⟨0xF0FF, 0xF09F, .unassigned⟩
  | .nopFXA0 => ⟨0xF0FF, 0xF0A0, .unassigned⟩
  | .nopFXA1 => ⟨0xF0FF, 0xF0A1, .unassigned⟩
  | .nopFXA2 => ⟨0xF0FF, 0xF0A2, .unassigned⟩
  | .nopFXA3 => ⟨0xF0FF, 0xF0A3, .unassigned⟩
  | .nopFXA4 => ⟨0xF0FF, 0xF0A4, .unassigned⟩
  | .nopFXA5 => ⟨0xF0FF, 0xF0A5, .unassigned⟩
  | .nopFXA6 => ⟨0xF0FF, 0xF0A6, .unassigned⟩
  | .nopFXA7 => ⟨0xF0FF, 0xF0A7, .unassigned⟩
  | .nopFXA8 => ⟨0xF0FF, 0xF0A8, .unassigned⟩
  | .nopFXA9 => ⟨0xF0FF, 0xF0A9, .unassigned⟩
  | .nopFXAA => ⟨0xF0FF, 0xF0AA, .unassigned⟩
  | .nopFXAB => ⟨0xF0FF, 0xF0AB, .unassigned⟩
  | .nopFXAC => ⟨0xF0FF, 0xF0AC, .unassigned⟩
  | .nopFXAD => ⟨0xF0FF, 0xF0AD, .unassigned⟩
  | .nopFXAE => ⟨0xF0FF, 0xF0AE, .unassigned⟩
  | .nopFXAF => ⟨0xF0FF, 0xF0AF, .unassigned⟩
  | .nopFXB0 => ⟨0xF0FF, 0xF0B0, .unassigned⟩
  | .nopFXB1 => ⟨0xF0FF, 0xF0B1, .unassigned⟩
  | .nopFXB2 => ⟨0xF0FF, 0xF0B2, .unassigned⟩
  | .nopFXB3 => ⟨0xF0FF, 0xF0B3, .unassigned⟩
  | .nopFXB4 => ⟨0xF0FF, 0xF0B4, .unassigned⟩
  | .nopFXB5 => ⟨0xF0FF, 0xF0B5, .unassigned⟩
  | .nopFXB6 => ⟨0xF0FF, 0xF0B6, .unassigned⟩
  | .nopFXB7 => ⟨0xF0FF, 0xF0B7, .unassigned⟩
  | .nopFXB8 => ⟨0xF0FF, 0xF0B8, .unassigned⟩
  | .nopFXB9 => ⟨0xF0FF, 0xF0B9, .unassigned⟩
  | .nopFXBA => ⟨0xF0FF, 0xF0BA, .unassigned⟩
  | .nopFXBB => ⟨0xF0FF, 0xF0BB, .unassigned⟩
  | .nopFXBC => ⟨0xF0FF, 0xF0BC, .unassigned⟩
  | .nopFXBD => ⟨0xF0FF, 0xF0BD, .unassigned⟩
  | .nopFXBE => ⟨0xF0FF, 0xF0BE, .unassigned⟩
  | .nopFXBF => ⟨0xF0FF, 0xF0BF, .unassigned⟩
  | .nopFXC0 => ⟨0xF0FF, 0xF0C0, .unassigned⟩
  | .nopFXC1 => ⟨0xF0FF, 0xF0C1, .unassigned⟩
  | .nopFXC2 => ⟨0xF0FF, 0xF0C2, .unassigned⟩
  | .nopFXC3 => ⟨0xF0FF, 0xF0C3, .unassigned⟩
  | .nopFXC4 => ⟨0xF0FF, 0xF0C4, .unassigned⟩
  | .nopFXC5 => ⟨0xF0FF, 0xF0C5, .unassigned⟩
  | .nopFXC6 => ⟨0xF0FF, 0xF0C6, .unassigned⟩
  | .nopFXC7 => ⟨0xF0FF, 0xF0C7, .unassigned⟩
  | .nopFXC8 => ⟨0xF0FF, 0xF0C8, .unassigned⟩
  | .nopFXC9 => ⟨0xF0FF, 0xF0C9, .unassigned⟩
  | .nopFXCA => ⟨0xF0FF, 0xF0CA, .unassigned⟩
  | .nopFXCB => ⟨0xF0FF, 0xF0CB, .unassigned⟩
  | .nopFXCC => ⟨0xF0FF, 0xF0CC, .unassigned⟩
  | .nopFXCD => ⟨0xF0FF, 0xF0CD, .unassigned⟩
  | .nopFXCE => ⟨0xF0FF, 0xF0CE, .unassigned⟩
  | .nopFXCF => ⟨0xF0FF, 0xF0CF, .unassigned⟩
  | .nopFXD0 => ⟨0xF0FF, 0xF0D0, .unassigned⟩
  | .nopFXD1 => ⟨0xF0FF, 0xF0D1, .unassigned⟩
  | .nopFXD2 => ⟨0xF0FF, 0xF0D2, .unassigned⟩
  | .nopFXD3 => ⟨0xF0FF, 0xF0D3, .unassigned⟩
  | .nopFXD4 => ⟨0xF0FF, 0xF0D4, .unassigned⟩
  | .nopFXD5 => ⟨0xF0FF, 0xF0D5, .unassigned⟩
  | .nopFXD6 => ⟨0xF0FF, 0xF0D6, .unassigned⟩
  | .nopFXD7 => ⟨0xF0FF, 0xF0D7, .unassigned⟩
  | .nopFXD8 => ⟨0xF0FF, 0xF0D8, .unassigned⟩
  | .nopFXD9 => ⟨0xF0FF, 0xF0D9, .unassigned⟩
  | .nopFXDA => ⟨0xF0FF, 0xF0DA, .unassigned⟩
  | .nopFXDB => ⟨0xF0FF, 0xF0DB, .unassigned⟩
  | .nopFXDC => ⟨0xF0FF, 0xF0DC, .unassigned⟩
  | .nopFXDD => ⟨0xF0FF, 0xF0DD, .unassigned⟩
  | .nopFXDE => ⟨0xF0FF, 0xF0DE, .unassigned⟩
  | .nopFXDF => ⟨0xF0FF, 0xF0DF, .unassigned⟩
  | .nopFXE0 => ⟨0xF0FF, 0xF0E0, .unassigned⟩
  | .nopFXE1 => ⟨0xF0FF, 0xF0E1, .unassigned⟩
  | .nopFXE2 => ⟨0xF0FF, 0xF0E2, .unassigned⟩
  | .nopFXE3 => ⟨0xF0FF, 0xF0E3, .unassigned⟩
  | .nopFXE4 => ⟨0xF0FF, 0xF0E4, .unassigned⟩
  | .nopFXE5 => ⟨0xF0FF, 0xF0E5, .unassigned⟩
  | .nopFXE6 => ⟨0xF0FF, 0xF0E6, .unassigned⟩
  | .nopFXE7 => ⟨0xF0FF, 0xF0E7, .unassigned⟩
  | .nopFXE8 => ⟨0xF0FF, 0xF0E8, .unassigned⟩
  | .nopFXE9 => ⟨0xF0FF, 0xF0E9, .unassigned⟩
  | .nopFXEA => ⟨0xF0FF, 0xF0EA, .unassigned⟩
  | .nopFXEB => ⟨0xF0FF, 0xF0EB, .unassigned⟩
  | .nopFXEC => ⟨0xF0FF, 0xF0EC, .unassigned⟩
  | .nopFXED => ⟨0xF0FF, 0xF0ED, .unassigned⟩
  | .nopFXEE => ⟨0xF0FF, 0xF0EE, .unassigned⟩
  | .nopFXEF => ⟨0xF0FF, 0xF0EF, .unassigned⟩
  | .nopFXF0 => ⟨0xF0FF, 0xF0F0, .unassigned⟩
  | .nopFXF1 => ⟨0xF0FF, 0xF0F1, .unassigned⟩
  | .nopFXF2 => ⟨0xF0FF, 0xF0F2, .unassigned⟩
  | .nopFXF3 => ⟨0xF0FF, 0xF0F3, .unassigned⟩
  | .nopFXF4 => ⟨0xF0FF, 0xF0F4, .unassigned⟩
  | .nopFXF5 => ⟨0xF0FF, 0xF0F5, .unassigned⟩
  | .nopFXF6 => ⟨0xF0FF, 0xF0F6, .unassigned⟩
  | .nopFXF7 => ⟨0xF0FF, 0xF0F7, .unassigned⟩
  | .nopFXF8 => ⟨0xF0FF, 0xF0F8, .unassigned⟩
  | .nopFXF9 => ⟨0xF0FF, 0xF0F9, .unassigned⟩
  | .nopFXFA => ⟨0xF0FF, 0xF0FA, .unassigned⟩
  | .nopFXFB => ⟨0xF0FF, 0xF0FB, .unassigned⟩
  | .nopFXFC => ⟨0xF0FF, 0xF0FC, .unassigned⟩
  | .nopFXFD => ⟨0xF0FF, 0xF0FD, .unassigned⟩
  | .nopFXFE => ⟨0xF0FF, 0xF0FE, .unassigned⟩
  | .nopFXFF => ⟨0xF0FF, 0xF0FF, .unassigned⟩

/-- Whether the instruction is one of the unassigned rows, a no-op (R100). -/
def Instr.isUnassigned (i : Instr) : Bool := decide (i.row.kind = .unassigned)

/-! ## The host's entry -/

/-- The instruction read from `nbits` bits `w`, numbered as spec/opcode_table.json numbers them: the word is
stored high byte first, as the hardware stores it, and given to `decode`. -/
def decodeTableWord (nbits w : Nat) : Option Instr :=
  match decode (bytesOfWord (BitVec.ofNat 16 (w % 2 ^ nbits))) with
  | .ok (i, _) => some i
  | .error _ => none

end Sys2Proof
end

