-- ==== Sys2Proof/Config.lean ====
section
/-! DEFINITION. The parameters of the machine (R6 of spec/00_scope.md): the fixed sizes, the font as a value
that a machine is given (OPEN in R6), and the free values nothing in Lean can evaluate. -/

namespace Sys2Proof.Config

/-- MEM_SIZE: addresses 0 to 4095. -/
def memSize : Nat := 4096

/-- PROGRAM_BASE: first byte of a loaded program; pc after Reset. -/
def programBase : Nat := 0x200

/-- MAX_ROM: the largest program Load accepts. -/
def maxRom : Nat := 3584

/-- STACK_DEPTH. -/
def stackDepth : Nat := 16

/-- FB_WIDTH: pixels per row. -/
def fbWidth : Nat := 64

/-- FB_HEIGHT: rows. -/
def fbHeight : Nat := 32

/-- DRAW_X_MOD, applied to V[X] on entry to DXYN. -/
def drawXMod : Nat := 64

/-- DRAW_Y_MOD, applied to V[Y] on entry to DXYN; the source's literal (R203, C7). -/
def drawYMod : Nat := 64

/-- GLYPH_BYTES: bytes per font glyph. -/
def glyphBytes : Nat := 5

/-- One glyph: five rows of eight pixels. -/
abbrev Glyph := Vector Byte 5

/-- The font parameters of R6: FONT_BASE is `base`, GLYPH_COUNT is the length of `glyphs`, FONT_DATA is
`glyphs`, five bytes each, in ascending order. R6's bound on them is `Font.wellFormed`. -/
structure Font where
  base : Nat
  glyphs : List Glyph
  deriving DecidableEq, Repr

/-- The spec's default font: FONT_BASE = 0x050 and the sixteen glyphs of item U14 in
spec/93_implementation_defined.md. PRESUMED, unsafe: R6 leaves all three parameters open (log entry 1). -/
def defaultFont : Font where
  base := 0x050
  glyphs :=
    [#v[0xF0, 0x90, 0x90, 0x90, 0xF0], #v[0x20, 0x60, 0x20, 0x20, 0x70],
     #v[0xF0, 0x10, 0xF0, 0x80, 0xF0], #v[0xF0, 0x10, 0xF0, 0x10, 0xF0]] ++
    [#v[0x90, 0x90, 0xF0, 0x10, 0x10], #v[0xF0, 0x80, 0xF0, 0x10, 0xF0],
     #v[0xF0, 0x80, 0xF0, 0x90, 0xF0], #v[0xF0, 0x10, 0x20, 0x40, 0x40]] ++
    [#v[0xF0, 0x90, 0xF0, 0x90, 0xF0], #v[0xF0, 0x90, 0xF0, 0x10, 0xF0],
     #v[0xF0, 0x90, 0xF0, 0x90, 0x90], #v[0xE0, 0x90, 0xE0, 0x90, 0xE0]] ++
    [#v[0xF0, 0x80, 0x80, 0x80, 0xF0], #v[0xE0, 0x90, 0x90, 0x90, 0xE0],
     #v[0xF0, 0x80, 0xF0, 0x80, 0xF0], #v[0xF0, 0x80, 0xF0, 0x80, 0x80]]

/-- RNG of R6: the byte the random source answers to its n-th draw. A free value with no body: nothing may
be assumed about it (R32, D13). DESIGN CHOICE of form, safe (log entry 2). -/
opaque randomByte : Nat → Byte

/-- One less than the value of a lit cell in the framebuffer readout, whose cells are 32 bits wide and whose
lit value is some number other than 0 (R205, U12). A free value with no body (log entry 8). -/
opaque litCellPred : Fin (0xFFFFFFFE + 1)

/-- The value of a lit cell in the readout: never 0, otherwise free (U12). -/
def litCell : BitVec 32 := BitVec.ofNat 32 (litCellPred.val + 1)

end Sys2Proof.Config
end

