-- ==== Sys2Proof/Machine/State.lean ====
section
/-! DEFINITION. The state of the machine (R20 of spec/10_state.md), the outcome types, and the state right
after Reset (R37). -/

namespace Sys2Proof.Machine

/-- The kinds the `fault` register holds (R33, R241); `FaultKind.code` gives their codes 0 to 7. -/
inductive FaultKind where
  /-- No fault recorded. -/
  | none
  /-- The fetch: pc > 4094. -/
  | fetchOob
  /-- 2NNN with sp = 16. -/
  | stackOverflow
  /-- 00EE with sp = 0. -/
  | stackUnderflow
  /-- DXYN or FX65: a byte to be read lies above 4095. -/
  | memReadOob
  /-- FX33 or FX55: a byte to be written lies above 4095. -/
  | memWriteOob
  /-- DXYN: a pixel position outside the grid. -/
  | drawOob
  /-- EX9E or EXA1: V[X] > 15. -/
  | keyOob
  deriving DecidableEq, Repr

/-- The 4096 bytes of memory (R34, R60). `cells` lists the bytes that differ from their reset contents, in
the canonical form `Memory.wf`; `font` is the machine's font parameters (R6), which fix the reset contents
an unlisted address reads as. Nothing the engine or the host does changes `font`. -/
structure Memory where
  cells : List Host.Cell
  font : Config.Font
  deriving DecidableEq, Repr

/-- The framebuffer, `fb[y][x]`, true for a lit pixel (R29, D17). -/
abbrev Framebuffer := Vector (Vector Bool 64) 32

/-- The sixteen key latches, true for a pressed key (R30). -/
abbrev Keypad := Vector Bool 16

/-- The state of R20. The last field is the model's own (log entry 3). -/
structure State where
  memory : Memory
  /-- V0 to VF (R21). -/
  v : Vector Byte 16
  index : Word
  pc : Word
  /-- The return stack, outside `memory` (R25). -/
  stack : Vector Word 16
  /-- The next free slot; 0 to 16 (R26). -/
  sp : Fin 17
  delayTimer : Byte
  soundTimer : Byte
  fb : Framebuffer
  keypad : Keypad
  /-- The most recently fetched word (R31). -/
  opcode : Word
  /-- The random source (R32): how many bytes have been drawn from it. -/
  randomSource : Nat
  fault : FaultKind
  /-- The keypad values the host writes before the next steps, oldest first; with none left the host
  writes nothing (R30, D22; log entry 3). -/
  keypadInput : List Keypad
  deriving DecidableEq, Repr

/-- Reasons a step ends in `Outcome.fault`. There are none: every behaviour the source leaves undefined is a
fault whose entry the spec describes (R241, R242), so it is a next state with the `fault` register set, and
a halted machine's Cycle returns and changes nothing (R243). Safe: nothing is left to stop on. -/
inductive Fault where
  deriving DecidableEq, Repr

/-- Reasons a step ends in `Outcome.refused`. -/
inductive Refusal where
  /-- Raised by `exec` alone, for an instruction that has no meaning yet, named as spec/opcode_table.json
  names it. Safe. No arm of `exec` raises it. -/
  | notModelled (mnemonic : String)
  deriving DecidableEq, Repr

/-- What a meaning answers. -/
abbrev Result := Host.Outcome State Fault Refusal

/-- The machine right after Reset: the values of R37. The stack entries, which R37 leaves unspecified, are 0
(DESIGN CHOICE, log entry 5); the font is the spec's default (PRESUMED, log entry 1); the random source stands
at its first byte (log entry 2); no keypad write is pending (log entry 3). -/
def State.reset : State where
  memory := { cells := [], font := Config.defaultFont }
  v := Vector.replicate 16 0
  index := 0
  pc := 0x200
  stack := Vector.replicate 16 0
  sp := 0
  delayTimer := 0
  soundTimer := 0
  fb := Vector.replicate 32 (Vector.replicate 64 false)
  keypad := Vector.replicate 16 false
  opcode := 0
  randomSource := 0
  fault := .none
  keypadInput := []

end Sys2Proof.Machine
end

