-- ==== Sys2Proof/WellFormed.lean ====
section
/-! DEFINITION. What is well-formed: an instruction, a program to load, the font parameters. -/

namespace Sys2Proof

/-- Every instruction is well-formed: each field holds exactly the values its bits can, and every value of
every field is legal (R93, R106, R107). There is no reserved operand. -/
def Instr.wellFormed (_ : Instr) : Bool := true

/-- A program Load accepts: at most MAX_ROM bytes (R6, R272, R273). -/
def romWellFormed (bytes : List Byte) : Bool := decide (bytes.length ≤ Config.maxRom)

/-- The bound R6 puts on the font parameters: FONT_BASE + 5 * GLYPH_COUNT ≤ 0x200. -/
def Config.Font.wellFormed (f : Config.Font) : Bool :=
  decide (f.base + Config.glyphBytes * f.glyphs.length ≤ Config.programBase)

end Sys2Proof
end

