-- ==== Sys2Proof/Machine/Ops.lean ====
section
/-! DEFINITION. The named operations over memory, registers, stack and timers, raising a fault, and the
fetch. A `raise` of the pseudocode is an `Except.error`; `commit` gives it the meaning of R10. -/

namespace Sys2Proof.Machine

/-! ## The fault register and raising a fault -/

/-- The code of a fault kind in the 3-bit `fault` register (R33, R241). -/
def FaultKind.code : FaultKind → BitVec 3
  | .none => 0
  | .fetchOob => 1
  | .stackOverflow => 2
  | .stackUnderflow => 3
  | .memReadOob => 4
  | .memWriteOob => 5
  | .drawOob => 6
  | .keyOob => 7

/-- Taking a fault (R242): the kind is recorded and nothing else changes. The argument is the state as it
stood before the Cycle's own writes, so `pc` still holds the address of the faulting instruction. There is no
return from a fault: only Reset leaves the halted state (R245), `State.hostReset`. -/
def State.raiseFault (k : FaultKind) (s : State) : State := { s with fault := k }

/-- The end of an instruction that may raise (R10): it commits all of its writes, or, where it raised, none
but the fault. `s` is the state before the instruction. -/
def commit (s : State) : Except FaultKind State → Result
  | .ok t => .next t
  | .error k => .next (s.raiseFault k)

/-! ## Memory -/

/-- The reset contents of the byte at `a` (R37): the font glyphs at FONT_BASE, 0 elsewhere. -/
def fontByteAt (f : Config.Font) (a : Nat) : Byte :=
  if a < f.base then 0
  else match f.glyphs[(a - f.base) / 5]? with
    | some g => g[(a - f.base) % 5]'(Nat.mod_lt _ (by decide))
    | none => 0

/-- What an unlisted address of `m` reads as: its reset contents. -/
def Memory.unlisted (m : Memory) (a : Nat) : Byte := fontByteAt m.font a

/-- The byte listed for `a`, if one is. -/
def lookupCell (a : Nat) : List Host.Cell → Option Byte
  | [] => none
  | (b, w) :: rest => if a = b then some w else lookupCell a rest

/-- The byte at an address of the space, 0 to 4095 (R60). -/
def Memory.byte (m : Memory) (a : Nat) : Byte := (lookupCell a m.cells).getD (m.unlisted a)

/-- The cells with `v` at `a`, kept in the canonical form; `d` is what `a` reads as when it is unlisted. -/
def putCell (a : Nat) (v d : Byte) : List Host.Cell → List Host.Cell
  | [] => if v = d then [] else [(a, v)]
  | (b, w) :: rest =>
    if a < b then (if v = d then (b, w) :: rest else (a, v) :: (b, w) :: rest)
    else if a = b then (if v = d then rest else (a, v) :: rest)
    else (b, w) :: putCell a v d rest

/-- Store one byte at an address of the space. -/
def Memory.put (m : Memory) (a : Nat) (v : Byte) : Memory :=
  { m with cells := putCell a v (m.unlisted a) m.cells }

/-- Store bytes at ascending addresses from `a`. -/
def Memory.putBytes (m : Memory) (a : Nat) : List Byte → Memory
  | [] => m
  | b :: bs => (m.put a b).putBytes (a + 1) bs

/-- The `n` bytes at `a`, ascending. -/
def Memory.bytes (m : Memory) (a : Nat) : Nat → List Byte
  | 0 => []
  | n + 1 => m.byte a :: m.bytes (a + 1) n

/-- Whether an access of `n` bytes at `a` lies in the space; `a` is an exact integer (R65, R66). An access of
no byte touches no address (DXYN with N = 0). -/
def accessInRange (a n : Nat) : Bool := decide (n = 0 ∨ a + n ≤ Config.memSize)

/-- MemRead of one byte at `a` (R65), as claims read memory: no byte above 4095. -/
def Memory.read (m : Memory) (a : Nat) : Option Byte :=
  if a < Config.memSize then some (m.byte a) else none

/-- MemRead of `n` data bytes (R65): the whole range is tested before any byte is read (D3). -/
def Memory.load (m : Memory) (a n : Nat) : Except FaultKind (List Byte) :=
  if accessInRange a n then .ok (m.bytes a n) else .error .memReadOob

/-- MemWrite of data bytes (R65): the whole range is tested before any byte is written (D3). -/
def Memory.store (m : Memory) (a : Nat) (bs : List Byte) : Except FaultKind Memory :=
  if accessInRange a bs.length then .ok (m.putBytes a bs) else .error .memWriteOob

/-- MemRead of the instruction word at `a` (R62, R65): big-endian, at any address up to 4094. -/
def Memory.fetch (m : Memory) (a : Nat) : Except FaultKind Word :=
  if a + 1 < Config.memSize then .ok (wordOfBytes (m.byte a) (m.byte (a + 1))) else .error .fetchOob

/-- Strictly rising addresses inside the space, each above `lo` when one is given, and no cell equal to what
its address reads as unlisted. -/
def cellsWf (d : Nat → Byte) : Option Nat → List Host.Cell → Bool
  | _, [] => true
  | lo, (a, v) :: rest =>
    (match lo with | some l => decide (l < a) | none => true) &&
      decide (a < Config.memSize) && decide (v ≠ d a) && cellsWf d (some a) rest

/-- The canonical form of memory, so that equal contents are equal data. -/
def Memory.wf (m : Memory) : Bool := cellsWf m.unlisted none m.cells

/-! ## Registers -/

/-- V[x] (R21). -/
def State.reg (s : State) (x : RegNum) : Byte := s.v[x.toNat]'x.isLt

/-- V[x] <- b. -/
def State.setReg (s : State) (x : RegNum) (b : Byte) : State :=
  { s with v := s.v.set x.toNat b x.isLt }

/-- The number of VF. -/
def vf : RegNum := 0xF

/-- The two writes of a flag-writing instruction, in their order (R150): VF, then V[x], so that for x = 0xF
the result replaces the flag. -/
def State.setFlagThenReg (s : State) (x : RegNum) (flag result : Byte) : State :=
  (s.setReg vf flag).setReg x result

/-- V[i], V[i+1], ... <- the bytes, ascending. -/
def writeRegs (v : Vector Byte 16) (i : Nat) : List Byte → Vector Byte 16
  | [] => v
  | b :: bs => writeRegs (v.setIfInBounds i b) (i + 1) bs

/-- index <- w. -/
def State.setIndex (s : State) (w : Word) : State := { s with index := w }

/-! ## The program counter -/

/-- pc <- w. -/
def State.setPc (s : State) (w : Word) : State := { s with pc := w }

/-- The advance of `pc` past the two bytes of the instruction, modulo 65536 (R120, R24). -/
def State.advance (s : State) : State := s.setPc (s.pc + 2)

/-- A conditional skip in a state whose `pc` is already advanced (R9, R130). -/
def State.skipIf (s : State) (c : Bool) : State := if c then s.setPc (s.pc + 2) else s

/-! ## The return stack -/

/-- stack[sp] <- w, then sp <- sp + 1; raises when sp = 16 (R123, R26). -/
def State.push (s : State) (w : Word) : Except FaultKind State :=
  if h : s.sp.val < 16 then
    .ok { s with stack := s.stack.set s.sp.val w h, sp := ⟨s.sp.val + 1, Nat.succ_lt_succ h⟩ }
  else .error .stackOverflow

/-- sp <- sp - 1, then the entry at the new sp; raises when sp = 0 (R121, R26). The entry stays in `stack`. -/
def State.pop (s : State) : Except FaultKind (Word × State) :=
  if h : 0 < s.sp.val then
    .ok (s.stack[s.sp.val - 1]'(by have := s.sp.isLt; omega),
      { s with sp := ⟨s.sp.val - 1, by have := s.sp.isLt; omega⟩ })
  else .error .stackUnderflow

/-! ## Timers -/

/-- delayTimer <- b. -/
def State.setDelayTimer (s : State) (b : Byte) : State := { s with delayTimer := b }

/-- soundTimer <- b. -/
def State.setSoundTimer (s : State) (b : Byte) : State := { s with soundTimer := b }

/-- One timer's tick: down by 1 unless it is 0 (R248). -/
def tickTimer (t : Byte) : Byte := if t.toNat > 0 then BitVec.ofNat 8 (t.toNat - 1) else t

/-- The tick at the end of a Cycle that did not fault (R248). -/
def State.tick (s : State) : State :=
  { s with delayTimer := tickTimer s.delayTimer, soundTimer := tickTimer s.soundTimer }

/-! ## The random source, the keypad, the opcode latch, memory and the framebuffer -/

/-- A draw of the random source: the byte it answers next. A free value (R32; log entry 2). -/
def State.randomByte (s : State) : Byte := Config.randomByte s.randomSource

/-- The draw consumed. -/
def State.drawn (s : State) : State := { s with randomSource := s.randomSource + 1 }

/-- The host's write of the sixteen key latches (R30). -/
def State.writeKeypad (s : State) (k : Keypad) : State := { s with keypad := k }

/-- The host's keypad write that comes before the next Cycle, if `keypadInput` holds one (R30, R226, D22). -/
def State.presentKeys (s : State) : State :=
  match s.keypadInput with
  | [] => s
  | k :: ks => { s with keypad := k, keypadInput := ks }

/-- The fetched word latched in `opcode` (R31). -/
def State.latch (s : State) (w : Word) : State := { s with opcode := w }

/-- Memory replaced. -/
def State.setMemory (s : State) (m : Memory) : State := { s with memory := m }

/-- The framebuffer replaced. -/
def State.setFb (s : State) (fb : Framebuffer) : State := { s with fb := fb }

/-- The state with the word `w` in the two bytes at `pc`, the high byte first; unchanged where a fetch at `pc`
would fault. -/
def State.placeWord (s : State) (w : Word) : State :=
  match s.memory.store s.pc.toNat (bytesOfWord w) with
  | .ok m => s.setMemory m
  | .error _ => s

end Sys2Proof.Machine
end

