-- ==== Sys2Proof/Machine/Operands.lean ====
section
/-! DEFINITION. The operand forms: immediates (R93), the address `index` (R66, R186), the register block and
the digits that FX55 and FX33 store, the glyph address, the keys. -/

namespace Sys2Proof.Machine

/-- NNN as a 16-bit value, zero-extended (R93). -/
def addressOperand (nnn : Addr12) : Word := nnn.setWidth 16

/-- A register's value as a 16-bit value, zero-extended. -/
def State.regWord (s : State) (x : RegNum) : Word := (s.reg x).setWidth 16

/-- The address of the first data byte, `index` as an exact integer (R66). -/
def State.dataAddress (s : State) : Nat := s.index.toNat

/-- The address of the glyph numbered by a register, FONT_BASE + 5 * V[X], the whole byte used (R182). -/
def State.glyphAddress (s : State) (x : RegNum) : Word :=
  BitVec.ofNat 16 (s.memory.font.base + Config.glyphBytes * (s.reg x).toNat)

/-- The hundreds, tens and ones of a byte (R183). -/
def decimalDigits (b : Byte) : List Byte :=
  [BitVec.ofNat 8 (b.toNat / 100), BitVec.ofNat 8 (b.toNat / 10 % 10), BitVec.ofNat 8 (b.toNat % 10)]

/-- The number of registers FX55 and FX65 move, V0 to VX (R184, R185). -/
def blockLength (x : RegNum) : Nat := x.toNat + 1

/-- V[0], ..., V[X]. -/
def State.regBlock (s : State) (x : RegNum) : List Byte := s.v.toList.take (blockLength x)

/-- Key(k) for a key number taken from a register; raises above 15, the number is not masked (R220, R221). -/
def State.keyPressed (s : State) (k : Byte) : Except FaultKind Bool :=
  if h : k.toNat < 16 then .ok (s.keypad[k.toNat]'h) else .error .keyOob

/-- The least key from `k` on that is pressed, `k` running over the `n` keys from `16 - n` (R222). -/
def leastPressed (keys : Keypad) : Nat → Option Byte
  | 0 => none
  | n + 1 =>
    if keys[15 - n]'(by omega) then some (BitVec.ofNat 8 (15 - n)) else leastPressed keys n

/-- The least pressed key of the sixteen, scanned in ascending order (R222). -/
def State.firstPressedKey (s : State) : Option Byte := leastPressed s.keypad 16

end Sys2Proof.Machine
end

