-- ==== Sys2Proof/Machine/Alu.lean ====
section
/-! DEFINITION. Register load, arithmetic, logic, shift and random (spec/41_alu.md): 6XKK, 7XKK, 8XY0 to
8XY7, 8XYE, CXKK. Operands are read on entry, before any write (R11, R150). Byte arithmetic wraps modulo 256
(R163). -/

namespace Sys2Proof.Machine

/-- 6XKK, load byte (R151). -/
def exec6XKK (x : RegNum) (kk : Byte) (s : State) : Result := .next (s.advance.setReg x kk)

/-- 7XKK, add byte, no flag (R152). -/
def exec7XKK (x : RegNum) (kk : Byte) (s : State) : Result := .next (s.advance.setReg x (s.reg x + kk))

/-- 8XY0, copy (R153). -/
def exec8XY0 (x y : RegNum) (s : State) : Result := .next (s.advance.setReg x (s.reg y))

/-- 8XY1, or (R154). -/
def exec8XY1 (x y : RegNum) (s : State) : Result := .next (s.advance.setReg x (s.reg x ||| s.reg y))

/-- 8XY2, and (R155). -/
def exec8XY2 (x y : RegNum) (s : State) : Result := .next (s.advance.setReg x (s.reg x &&& s.reg y))

/-- 8XY3, exclusive or (R156). -/
def exec8XY3 (x y : RegNum) (s : State) : Result := .next (s.advance.setReg x (s.reg x ^^^ s.reg y))

/-- 8XY4, add with carry flag (R157). -/
def exec8XY4 (x y : RegNum) (s : State) : Result :=
  .next (s.advance.setFlagThenReg x (carryFlag (s.reg x) (s.reg y)) (s.reg x + s.reg y))

/-- 8XY5, V[X] minus V[Y] (R158). -/
def exec8XY5 (x y : RegNum) (s : State) : Result :=
  .next (s.advance.setFlagThenReg x (greaterFlag (s.reg x) (s.reg y)) (s.reg x - s.reg y))

/-- 8XY6, shift V[X] right by one; V[Y] is not used (R159). -/
def exec8XY6 (x _y : RegNum) (s : State) : Result :=
  .next (s.advance.setFlagThenReg x (lowBitFlag (s.reg x)) (s.reg x >>> 1))

/-- 8XY7, V[Y] minus V[X] (R160). -/
def exec8XY7 (x y : RegNum) (s : State) : Result :=
  .next (s.advance.setFlagThenReg x (greaterFlag (s.reg y) (s.reg x)) (s.reg y - s.reg x))

/-- 8XYE, shift V[X] left by one; V[Y] is not used (R161). -/
def exec8XYE (x _y : RegNum) (s : State) : Result :=
  .next (s.advance.setFlagThenReg x (highBitFlag (s.reg x)) (s.reg x <<< 1))

/-- CXKK, a drawn byte and a mask; one draw is consumed (R162). -/
def execCXKK (x : RegNum) (kk : Byte) (s : State) : Result :=
  .next (s.advance.drawn.setReg x (s.randomByte &&& kk))

end Sys2Proof.Machine
end

