-- ==== Sys2Proof/Machine/Control.lean ====
section
/-! DEFINITION. Control transfer (spec/40_cycle_control_flow.md): 00EE, 1NNN, 2NNN, 3XKK, 4XKK, 5XY0, 9XY0,
BNNN. A meaning takes the state before the Cycle; "pc" of the spec's pseudocode is the advanced one, so each
meaning works on `s.advance`. -/

namespace Sys2Proof.Machine

/-- 00EE, return (R121). -/
def exec00EE (s : State) : Result :=
  commit s (s.advance.pop.map fun (w, t) => t.setPc w)

/-- 1NNN, jump (R122). -/
def exec1NNN (nnn : Addr12) (s : State) : Result := .next (s.advance.setPc (addressOperand nnn))

/-- 2NNN, call: the advanced pc is pushed (R123). -/
def exec2NNN (nnn : Addr12) (s : State) : Result :=
  commit s ((s.advance.push s.advance.pc).map (·.setPc (addressOperand nnn)))

/-- 3XKK, skip if V[X] = KK (R124). -/
def exec3XKK (x : RegNum) (kk : Byte) (s : State) : Result :=
  .next (s.advance.skipIf (decide (s.reg x = kk)))

/-- 4XKK, skip if V[X] ≠ KK (R125). -/
def exec4XKK (x : RegNum) (kk : Byte) (s : State) : Result :=
  .next (s.advance.skipIf (decide (s.reg x ≠ kk)))

/-- 5XY0, skip if V[X] = V[Y] (R126). -/
def exec5XY0 (x y : RegNum) (s : State) : Result :=
  .next (s.advance.skipIf (decide (s.reg x = s.reg y)))

/-- 9XY0, skip if V[X] ≠ V[Y] (R127). -/
def exec9XY0 (x y : RegNum) (s : State) : Result :=
  .next (s.advance.skipIf (decide (s.reg x ≠ s.reg y)))

/-- BNNN, jump to V0 + NNN, modulo 65536 (R128). -/
def execBNNN (nnn : Addr12) (s : State) : Result :=
  .next (s.advance.setPc (s.regWord 0 + addressOperand nnn))

end Sys2Proof.Machine
end

