-- ==== Sys2Proof/Machine/Display.lean ====
section
/-! DEFINITION. The framebuffer and the display instructions (spec/43_display.md): 00E0, DXYN. -/

namespace Sys2Proof.Machine

/-- fb[y][x]; the coordinates of every pixel the engine or the host touches lie in the grid (R200), a pixel
outside it reads as off. -/
def Framebuffer.pixel (fb : Framebuffer) (y x : Nat) : Bool :=
  if h : y < 32 ∧ x < 64 then (fb[y]'h.1)[x]'h.2 else false

/-- fb[y][x] <- b; nothing outside the grid. -/
def Framebuffer.setPixel (fb : Framebuffer) (y x : Nat) (b : Bool) : Framebuffer :=
  if h : y < 32 ∧ x < 64 then fb.set y ((fb[y]'h.1).set x b h.2) h.1 else fb

/-- Every pixel off. -/
def Framebuffer.dark : Framebuffer := Vector.replicate 32 (Vector.replicate 64 false)

/-- What a draw has done so far: the framebuffer and whether a pixel went from on to off. -/
structure Drawing where
  fb : Framebuffer
  collision : Bool
  deriving DecidableEq, Repr

/-- One pixel of a draw: exclusive or, and a collision where both were on (R202). -/
def Drawing.plot (d : Drawing) (y x : Nat) (bit : Bool) : Drawing where
  fb := d.fb.setPixel y x (d.fb.pixel y x ^^ bit)
  collision := d.collision || (d.fb.pixel y x && bit)

/-- The sprite bit of column `col`: bit 7 is the leftmost pixel (R202, D9). -/
def spriteBit (sprite : Byte) (col : Nat) : Bool := sprite.getLsbD (7 - col)

/-- The eight pixels of one sprite row, left to right. -/
def Drawing.row (d : Drawing) (y x0 : Nat) (sprite : Byte) : Drawing :=
  (List.range 8).foldl (fun d col => d.plot y (x0 + col) (spriteBit sprite col)) d

/-- The rows of a sprite, top to bottom from row `y0`. -/
def Drawing.rows (d : Drawing) (y0 x0 : Nat) : List Byte → Drawing
  | [] => d
  | sprite :: rest => (d.row y0 x0 sprite).rows (y0 + 1) x0 rest

/-- The column a sprite starts at: V[X] reduced on entry (R202). -/
def State.drawColumn (s : State) (x : RegNum) : Nat := (s.reg x).toNat % Config.drawXMod

/-- The row a sprite starts at: V[Y] reduced on entry, by the source's literal 64 (R202, R203). -/
def State.drawRow (s : State) (y : RegNum) : Nat := (s.reg y).toNat % Config.drawYMod

/-- Whether an 8 by `n` sprite at row `y0`, column `x0` leaves the grid, whatever its bits (R202, D5). -/
def leavesGrid (y0 x0 n : Nat) : Bool :=
  decide (n > 0 ∧ (x0 + 7 > Config.fbWidth - 1 ∨ y0 + n - 1 > Config.fbHeight - 1))

/-- 00E0, clear screen; VF is not written (R201). -/
def exec00E0 (s : State) : Result := .next (s.advance.setFb Framebuffer.dark)

/-- The effect of DXYN on a state whose sprite bytes are read. -/
def State.drawSprite (s : State) (x y : RegNum) (sprite : List Byte) : State :=
  let d := Drawing.rows { fb := s.fb, collision := false } (s.drawRow y) (s.drawColumn x) sprite
  (s.setFb d.fb).setReg vf (collisionFlag d.collision)

/-- DXYN, draw sprite (R202): MEM_READ_OOB is tested before DRAW_OOB (R244). -/
def execDXYN (x y : RegNum) (n : Nibble) (s : State) : Result :=
  commit s (match s.memory.load s.dataAddress n.toNat with
    | .error k => .error k
    | .ok sprite =>
      if leavesGrid (s.drawRow y) (s.drawColumn x) n.toNat then .error .drawOob
      else .ok (s.advance.drawSprite x y sprite))

end Sys2Proof.Machine
end

