-- ==== Sys2Proof/Machine/IndexMemory.lean ====
section
/-! DEFINITION. Index register and memory (spec/42_index_memory.md): ANNN, FX1E, FX29, FX33, FX55, FX65.
`index` is never changed by a load or a store (R184, R185, R186). -/

namespace Sys2Proof.Machine

/-- ANNN, load index (R180). -/
def execANNN (nnn : Addr12) (s : State) : Result := .next (s.advance.setIndex (addressOperand nnn))

/-- FX1E, add V[X] to index, modulo 65536, no flag (R181). -/
def execFX1E (x : RegNum) (s : State) : Result := .next (s.advance.setIndex (s.index + s.regWord x))

/-- FX29, index of the font glyph V[X] (R182). -/
def execFX29 (x : RegNum) (s : State) : Result := .next (s.advance.setIndex (s.glyphAddress x))

/-- FX33, store the decimal digits of V[X] (R183). -/
def execFX33 (x : RegNum) (s : State) : Result :=
  commit s ((s.memory.store s.dataAddress (decimalDigits (s.reg x))).map s.advance.setMemory)

/-- FX55, store V0 to VX (R184). -/
def execFX55 (x : RegNum) (s : State) : Result :=
  commit s ((s.memory.store s.dataAddress (s.regBlock x)).map s.advance.setMemory)

/-- FX65, load V0 to VX (R185). -/
def execFX65 (x : RegNum) (s : State) : Result :=
  commit s ((s.memory.load s.dataAddress (blockLength x)).map fun bs =>
    { s.advance with v := writeRegs s.v 0 bs })

end Sys2Proof.Machine
end

