-- ==== Sys2Proof/Machine/KeysTimers.lean ====
section
/-! DEFINITION. Keypad and timer instructions (spec/44_keypad_timers.md): EX9E, EXA1, FX0A, FX07, FX15, FX18.
The timers' tick is the Cycle's (R248), not theirs. -/

namespace Sys2Proof.Machine

/-- EX9E, skip if key V[X] is pressed (R220). -/
def execEX9E (x : RegNum) (s : State) : Result :=
  commit s ((s.keyPressed (s.reg x)).map s.advance.skipIf)

/-- EXA1, skip if key V[X] is not pressed (R221). -/
def execEXA1 (x : RegNum) (s : State) : Result :=
  commit s ((s.keyPressed (s.reg x)).map fun pressed => s.advance.skipIf (!pressed))

/-- FX07, read delay timer, as it stands before this Cycle's tick (R223). -/
def execFX07 (x : RegNum) (s : State) : Result := .next (s.advance.setReg x s.delayTimer)

/-- FX0A, wait for key: the least pressed key, or back to this instruction (R222). -/
def execFX0A (x : RegNum) (s : State) : Result :=
  match s.firstPressedKey with
  | some k => .next (s.advance.setReg x k)
  | none => .next (s.advance.setPc (s.advance.pc - 2))

/-- FX15, set delay timer (R224). -/
def execFX15 (x : RegNum) (s : State) : Result := .next (s.advance.setDelayTimer (s.reg x))

/-- FX18, set sound timer (R225). -/
def execFX18 (x : RegNum) (s : State) : Result := .next (s.advance.setSoundTimer (s.reg x))

end Sys2Proof.Machine
end

