-- ==== Sys2Proof/Machine/Nop.lean ====
section
/-! DEFINITION. The unassigned words (R100, R129): each row of the table that stands for them has its own
meaning, one call of the shared no-op. -/

namespace Sys2Proof.Machine

/-- The no-op of R129: nothing but the advance of `pc`. -/
def noOperation (s : State) : Result := .next s.advance

def execNop0NN1 (s : State) : Result := noOperation s
def execNop0NN2 (s : State) : Result := noOperation s
def execNop0NN3 (s : State) : Result := noOperation s
def execNop0NN4 (s : State) : Result := noOperation s
def execNop0NN5 (s : State) : Result := noOperation s
def execNop0NN6 (s : State) : Result := noOperation s
def execNop0NN7 (s : State) : Result := noOperation s
def execNop0NN8 (s : State) : Result := noOperation s
def execNop0NN9 (s : State) : Result := noOperation s
def execNop0NNA (s : State) : Result := noOperation s
def execNop0NNB (s : State) : Result := noOperation s
def execNop0NNC (s : State) : Result := noOperation s
def execNop0NND (s : State) : Result := noOperation s
def execNop0NNF (s : State) : Result := noOperation s
def execNop8XY8 (s : State) : Result := noOperation s
def execNop8XY9 (s : State) : Result := noOperation s
def execNop8XYA (s : State) : Result := noOperation s
def execNop8XYB (s : State) : Result := noOperation s
def execNop8XYC (s : State) : Result := noOperation s
def execNop8XYD (s : State) : Result := noOperation s
def execNop8XYF (s : State) : Result := noOperation s
def execNopEXN0 (s : State) : Result := noOperation s
def execNopEXN2 (s : State) : Result := noOperation s
def execNopEXN3 (s : State) : Result := noOperation s
def execNopEXN4 (s : State) : Result := noOperation s
def execNopEXN5 (s : State) : Result := noOperation s
def execNopEXN6 (s : State) : Result := noOperation s
def execNopEXN7 (s : State) : Result := noOperation s
def execNopEXN8 (s : State) : Result := noOperation s
def execNopEXN9 (s : State) : Result := noOperation s
def execNopEXNA (s : State) : Result := noOperation s
def execNopEXNB (s : State) : Result := noOperation s
def execNopEXNC (s : State) : Result := noOperation s
def execNopEXND (s : State) : Result := noOperation s
def execNopEXNF (s : State) : Result := noOperation s
def execNopFX00 (s : State) : Result := noOperation s
def execNopFX01 (s : State) : Result := noOperation s
def execNopFX02 (s : State) : Result := noOperation s
def execNopFX03 (s : State) : Result := noOperation s
def execNopFX04 (s : State) : Result := noOperation s
def execNopFX05 (s : State) : Result := noOperation s
def execNopFX06 (s : State) : Result := noOperation s
def execNopFX08 (s : State) : Result := noOperation s
def execNopFX09 (s : State) : Result := noOperation s
def execNopFX0B (s : State) : Result := noOperation s
def execNopFX0C (s : State) : Result := noOperation s
def execNopFX0D (s : State) : Result := noOperation s
def execNopFX0E (s : State) : Result := noOperation s
def execNopFX0F (s : State) : Result := noOperation s
def execNopFX10 (s : State) : Result := noOperation s
def execNopFX11 (s : State) : Result := noOperation s
def execNopFX12 (s : State) : Result := noOperation s
def execNopFX13 (s : State) : Result := noOperation s
def execNopFX14 (s : State) : Result := noOperation s
def execNopFX16 (s : State) : Result := noOperation s
def execNopFX17 (s : State) : Result := noOperation s
def execNopFX19 (s : State) : Result := noOperation s
def execNopFX1A (s : State) : Result := noOperation s
def execNopFX1B (s : State) : Result := noOperation s
def execNopFX1C (s : State) : Result := noOperation s
def execNopFX1D (s : State) : Result := noOperation s
def execNopFX1F (s : State) : Result := noOperation s
def execNopFX20 (s : State) : Result := noOperation s
def execNopFX21 (s : State) : Result := noOperation s
def execNopFX22 (s : State) : Result := noOperation s
def execNopFX23 (s : State) : Result := noOperation s
def execNopFX24 (s : State) : Result := noOperation s
def execNopFX25 (s : State) : Result := noOperation s
def execNopFX26 (s : State) : Result := noOperation s
def execNopFX27 (s : State) : Result := noOperation s
def execNopFX28 (s : State) : Result := noOperation s
def execNopFX2A (s : State) : Result := noOperation s
def execNopFX2B (s : State) : Result := noOperation s
def execNopFX2C (s : State) : Result := noOperation s
def execNopFX2D (s : State) : Result := noOperation s
def execNopFX2E (s : State) : Result := noOperation s
def execNopFX2F (s : State) : Result := noOperation s
def execNopFX30 (s : State) : Result := noOperation s
def execNopFX31 (s : State) : Result := noOperation s
def execNopFX32 (s : State) : Result := noOperation s
def execNopFX34 (s : State) : Result := noOperation s
def execNopFX35 (s : State) : Result := noOperation s
def execNopFX36 (s : State) : Result := noOperation s
def execNopFX37 (s : State) : Result := noOperation s
def execNopFX38 (s : State) : Result := noOperation s
def execNopFX39 (s : State) : Result := noOperation s
def execNopFX3A (s : State) : Result := noOperation s
def execNopFX3B (s : State) : Result := noOperation s
def execNopFX3C (s : State) : Result := noOperation s
def execNopFX3D (s : State) : Result := noOperation s
def execNopFX3E (s : State) : Result := noOperation s
def execNopFX3F (s : State) : Result := noOperation s
def execNopFX40 (s : State) : Result := noOperation s
def execNopFX41 (s : State) : Result := noOperation s
def execNopFX42 (s : State) : Result := noOperation s
def execNopFX43 (s : State) : Result := noOperation s
def execNopFX44 (s : State) : Result := noOperation s
def execNopFX45 (s : State) : Result := noOperation s
def execNopFX46 (s : State) : Result := noOperation s
def execNopFX47 (s : State) : Result := noOperation s
def execNopFX48 (s : State) : Result := noOperation s
def execNopFX49 (s : State) : Result := noOperation s
def execNopFX4A (s : State) : Result := noOperation s
def execNopFX4B (s : State) : Result := noOperation s
def execNopFX4C (s : State) : Result := noOperation s
def execNopFX4D (s : State) : Result := noOperation s
def execNopFX4E (s : State) : Result := noOperation s
def execNopFX4F (s : State) : Result := noOperation s
def execNopFX50 (s : State) : Result := noOperation s
def execNopFX51 (s : State) : Result := noOperation s
def execNopFX52 (s : State) : Result := noOperation s
def execNopFX53 (s : State) : Result := noOperation s
def execNopFX54 (s : State) : Result := noOperation s
def execNopFX56 (s : State) : Result := noOperation s
def execNopFX57 (s : State) : Result := noOperation s
def execNopFX58 (s : State) : Result := noOperation s
def execNopFX59 (s : State) : Result := noOperation s
def execNopFX5A (s : State) : Result := noOperation s
def execNopFX5B (s : State) : Result := noOperation s
def execNopFX5C (s : State) : Result := noOperation s
def execNopFX5D (s : State) : Result := noOperation s
def execNopFX5E (s : State) : Result := noOperation s
def execNopFX5F (s : State) : Result := noOperation s
def execNopFX60 (s : State) : Result := noOperation s
def execNopFX61 (s : State) : Result := noOperation s
def execNopFX62 (s : State) : Result := noOperation s
def execNopFX63 (s : State) : Result := noOperation s
def execNopFX64 (s : State) : Result := noOperation s
def execNopFX66 (s : State) : Result := noOperation s
def execNopFX67 (s : State) : Result := noOperation s
def execNopFX68 (s : State) : Result := noOperation s
def execNopFX69 (s : State) : Result := noOperation s
def execNopFX6A (s : State) : Result := noOperation s
def execNopFX6B (s : State) : Result := noOperation s
def execNopFX6C (s : State) : Result := noOperation s
def execNopFX6D (s : State) : Result := noOperation s
def execNopFX6E (s : State) : Result := noOperation s
def execNopFX6F (s : State) : Result := noOperation s
def execNopFX70 (s : State) : Result := noOperation s
def execNopFX71 (s : State) : Result := noOperation s
def execNopFX72 (s : State) : Result := noOperation s
def execNopFX73 (s : State) : Result := noOperation s
def execNopFX74 (s : State) : Result := noOperation s
def execNopFX75 (s : State) : Result := noOperation s
def execNopFX76 (s : State) : Result := noOperation s
def execNopFX77 (s : State) : Result := noOperation s
def execNopFX78 (s : State) : Result := noOperation s
def execNopFX79 (s : State) : Result := noOperation s
def execNopFX7A (s : State) : Result := noOperation s
def execNopFX7B (s : State) : Result := noOperation s
def execNopFX7C (s : State) : Result := noOperation s
def execNopFX7D (s : State) : Result := noOperation s
def execNopFX7E (s : State) : Result := noOperation s
def execNopFX7F (s : State) : Result := noOperation s
def execNopFX80 (s : State) : Result := noOperation s
def execNopFX81 (s : State) : Result := noOperation s
def execNopFX82 (s : State) : Result := noOperation s
def execNopFX83 (s : State) : Result := noOperation s
def execNopFX84 (s : State) : Result := noOperation s
def execNopFX85 (s : State) : Result := noOperation s
def execNopFX86 (s : State) : Result := noOperation s
def execNopFX87 (s : State) : Result := noOperation s
def execNopFX88 (s : State) : Result := noOperation s
def execNopFX89 (s : State) : Result := noOperation s
def execNopFX8A (s : State) : Result := noOperation s
def execNopFX8B (s : State) : Result := noOperation s
def execNopFX8C (s : State) : Result := noOperation s
def execNopFX8D (s : State) : Result := noOperation s
def execNopFX8E (s : State) : Result := noOperation s
def execNopFX8F (s : State) : Result := noOperation s
def execNopFX90 (s : State) : Result := noOperation s
def execNopFX91 (s : State) : Result := noOperation s
def execNopFX92 (s : State) : Result := noOperation s
def execNopFX93 (s : State) : Result := noOperation s
def execNopFX94 (s : State) : Result := noOperation s
def execNopFX95 (s : State) : Result := noOperation s
def execNopFX96 (s : State) : Result := noOperation s
def execNopFX97 (s : State) : Result := noOperation s
def execNopFX98 (s : State) : Result := noOperation s
def execNopFX99 (s : State) : Result := noOperation s
def execNopFX9A (s : State) : Result := noOperation s
def execNopFX9B (s : State) : Result := noOperation s
def execNopFX9C (s : State) : Result := noOperation s
def execNopFX9D (s : State) : Result := noOperation s
def execNopFX9E (s : State) : Result := noOperation s
def execNopFX9F (s : State) : Result := noOperation s
def execNopFXA0 (s : State) : Result := noOperation s
def execNopFXA1 (s : State) : Result := noOperation s
def execNopFXA2 (s : State) : Result := noOperation s
def execNopFXA3 (s : State) : Result := noOperation s
def execNopFXA4 (s : State) : Result := noOperation s
def execNopFXA5 (s : State) : Result := noOperation s
def execNopFXA6 (s : State) : Result := noOperation s
def execNopFXA7 (s : State) : Result := noOperation s
def execNopFXA8 (s : State) : Result := noOperation s
def execNopFXA9 (s : State) : Result := noOperation s
def execNopFXAA (s : State) : Result := noOperation s
def execNopFXAB (s : State) : Result := noOperation s
def execNopFXAC (s : State) : Result := noOperation s
def execNopFXAD (s : State) : Result := noOperation s
def execNopFXAE (s : State) : Result := noOperation s
def execNopFXAF (s : State) : Result := noOperation s
def execNopFXB0 (s : State) : Result := noOperation s
def execNopFXB1 (s : State) : Result := noOperation s
def execNopFXB2 (s : State) : Result := noOperation s
def execNopFXB3 (s : State) : Result := noOperation s
def execNopFXB4 (s : State) : Result := noOperation s
def execNopFXB5 (s : State) : Result := noOperation s
def execNopFXB6 (s : State) : Result := noOperation s
def execNopFXB7 (s : State) : Result := noOperation s
def execNopFXB8 (s : State) : Result := noOperation s
def execNopFXB9 (s : State) : Result := noOperation s
def execNopFXBA (s : State) : Result := noOperation s
def execNopFXBB (s : State) : Result := noOperation s
def execNopFXBC (s : State) : Result := noOperation s
def execNopFXBD (s : State) : Result := noOperation s
def execNopFXBE (s : State) : Result := noOperation s
def execNopFXBF (s : State) : Result := noOperation s
def execNopFXC0 (s : State) : Result := noOperation s
def execNopFXC1 (s : State) : Result := noOperation s
def execNopFXC2 (s : State) : Result := noOperation s
def execNopFXC3 (s : State) : Result := noOperation s
def execNopFXC4 (s : State) : Result := noOperation s
def execNopFXC5 (s : State) : Result := noOperation s
def execNopFXC6 (s : State) : Result := noOperation s
def execNopFXC7 (s : State) : Result := noOperation s
def execNopFXC8 (s : State) : Result := noOperation s
def execNopFXC9 (s : State) : Result := noOperation s
def execNopFXCA (s : State) : Result := noOperation s
def execNopFXCB (s : State) : Result := noOperation s
def execNopFXCC (s : State) : Result := noOperation s
def execNopFXCD (s : State) : Result := noOperation s
def execNopFXCE (s : State) : Result := noOperation s
def execNopFXCF (s : State) : Result := noOperation s
def execNopFXD0 (s : State) : Result := noOperation s
def execNopFXD1 (s : State) : Result := noOperation s
def execNopFXD2 (s : State) : Result := noOperation s
def execNopFXD3 (s : State) : Result := noOperation s
def execNopFXD4 (s : State) : Result := noOperation s
def execNopFXD5 (s : State) : Result := noOperation s
def execNopFXD6 (s : State) : Result := noOperation s
def execNopFXD7 (s : State) : Result := noOperation s
def execNopFXD8 (s : State) : Result := noOperation s
def execNopFXD9 (s : State) : Result := noOperation s
def execNopFXDA (s : State) : Result := noOperation s
def execNopFXDB (s : State) : Result := noOperation s
def execNopFXDC (s : State) : Result := noOperation s
def execNopFXDD (s : State) : Result := noOperation s
def execNopFXDE (s : State) : Result := noOperation s
def execNopFXDF (s : State) : Result := noOperation s
def execNopFXE0 (s : State) : Result := noOperation s
def execNopFXE1 (s : State) : Result := noOperation s
def execNopFXE2 (s : State) : Result := noOperation s
def execNopFXE3 (s : State) : Result := noOperation s
def execNopFXE4 (s : State) : Result := noOperation s
def execNopFXE5 (s : State) : Result := noOperation s
def execNopFXE6 (s : State) : Result := noOperation s
def execNopFXE7 (s : State) : Result := noOperation s
def execNopFXE8 (s : State) : Result := noOperation s
def execNopFXE9 (s : State) : Result := noOperation s
def execNopFXEA (s : State) : Result := noOperation s
def execNopFXEB (s : State) : Result := noOperation s
def execNopFXEC (s : State) : Result := noOperation s
def execNopFXED (s : State) : Result := noOperation s
def execNopFXEE (s : State) : Result := noOperation s
def execNopFXEF (s : State) : Result := noOperation s
def execNopFXF0 (s : State) : Result := noOperation s
def execNopFXF1 (s : State) : Result := noOperation s
def execNopFXF2 (s : State) : Result := noOperation s
def execNopFXF3 (s : State) : Result := noOperation s
def execNopFXF4 (s : State) : Result := noOperation s
def execNopFXF5 (s : State) : Result := noOperation s
def execNopFXF6 (s : State) : Result := noOperation s
def execNopFXF7 (s : State) : Result := noOperation s
def execNopFXF8 (s : State) : Result := noOperation s
def execNopFXF9 (s : State) : Result := noOperation s
def execNopFXFA (s : State) : Result := noOperation s
def execNopFXFB (s : State) : Result := noOperation s
def execNopFXFC (s : State) : Result := noOperation s
def execNopFXFD (s : State) : Result := noOperation s
def execNopFXFE (s : State) : Result := noOperation s
def execNopFXFF (s : State) : Result := noOperation s

end Sys2Proof.Machine
end

