-- ==== Sys2Proof/Machine/Dispatch.lean ====
section
/-! DEFINITION. Execute of R120: one arm per constructor, each one call of that instruction's meaning. -/

namespace Sys2Proof.Machine

def exec (i : Instr) (s : State) : Host.Outcome State Fault Refusal :=
  match i with
  | .op00E0 => Sys2Proof.Machine.exec00E0 s
  | .op00EE => Sys2Proof.Machine.exec00EE s
  | .op1NNN nnn => Sys2Proof.Machine.exec1NNN nnn s
  | .op2NNN nnn => Sys2Proof.Machine.exec2NNN nnn s
  | .op3XKK x kk => Sys2Proof.Machine.exec3XKK x kk s
  | .op4XKK x kk => Sys2Proof.Machine.exec4XKK x kk s
  | .op5XY0 x y => Sys2Proof.Machine.exec5XY0 x y s
  | .op6XKK x kk => Sys2Proof.Machine.exec6XKK x kk s
  | .op7XKK x kk => Sys2Proof.Machine.exec7XKK x kk s
  | .op8XY0 x y => Sys2Proof.Machine.exec8XY0 x y s
  | .op8XY1 x y => Sys2Proof.Machine.exec8XY1 x y s
  | .op8XY2 x y => Sys2Proof.Machine.exec8XY2 x y s
  | .op8XY3 x y => Sys2Proof.Machine.exec8XY3 x y s
  | .op8XY4 x y => Sys2Proof.Machine.exec8XY4 x y s
  | .op8XY5 x y => Sys2Proof.Machine.exec8XY5 x y s
  | .op8XY6 x y => Sys2Proof.Machine.exec8XY6 x y s
  | .op8XY7 x y => Sys2Proof.Machine.exec8XY7 x y s
  | .op8XYE x y => Sys2Proof.Machine.exec8XYE x y s
  | .op9XY0 x y => Sys2Proof.Machine.exec9XY0 x y s
  | .opANNN nnn => Sys2Proof.Machine.execANNN nnn s
  | .opBNNN nnn => Sys2Proof.Machine.execBNNN nnn s
  | .opCXKK x kk => Sys2Proof.Machine.execCXKK x kk s
  | .opDXYN x y n => Sys2Proof.Machine.execDXYN x y n s
  | .opEX9E x => Sys2Proof.Machine.execEX9E x s
  | .opEXA1 x => Sys2Proof.Machine.execEXA1 x s
  | .opFX07 x => Sys2Proof.Machine.execFX07 x s
  | .opFX0A x => Sys2Proof.Machine.execFX0A x s
  | .opFX15 x => Sys2Proof.Machine.execFX15 x s
  | .opFX18 x => Sys2Proof.Machine.execFX18 x s
  | .opFX1E x => Sys2Proof.Machine.execFX1E x s
  | .opFX29 x => Sys2Proof.Machine.execFX29 x s
  | .opFX33 x => Sys2Proof.Machine.execFX33 x s
  | .opFX55 x => Sys2Proof.Machine.execFX55 x s
  | .opFX65 x => Sys2Proof.Machine.execFX65 x s
  | .nop0NN1 => Sys2Proof.Machine.execNop0NN1 s
  | .nop0NN2 => Sys2Proof.Machine.execNop0NN2 s
  | .nop0NN3 => Sys2Proof.Machine.execNop0NN3 s
  | .nop0NN4 => Sys2Proof.Machine.execNop0NN4 s
  | .nop0NN5 => Sys2Proof.Machine.execNop0NN5 s
  | .nop0NN6 => Sys2Proof.Machine.execNop0NN6 s
  | .nop0NN7 => Sys2Proof.Machine.execNop0NN7 s
  | .nop0NN8 => Sys2Proof.Machine.execNop0NN8 s
  | .nop0NN9 => Sys2Proof.Machine.execNop0NN9 s
  | .nop0NNA => Sys2Proof.Machine.execNop0NNA s
  | .nop0NNB => Sys2Proof.Machine.execNop0NNB s
  | .nop0NNC => Sys2Proof.Machine.execNop0NNC s
  | .nop0NND => Sys2Proof.Machine.execNop0NND s
  | .nop0NNF => Sys2Proof.Machine.execNop0NNF s
  | .nop8XY8 => Sys2Proof.Machine.execNop8XY8 s
  | .nop8XY9 => Sys2Proof.Machine.execNop8XY9 s
  | .nop8XYA => Sys2Proof.Machine.execNop8XYA s
  | .nop8XYB => Sys2Proof.Machine.execNop8XYB s
  | .nop8XYC => Sys2Proof.Machine.execNop8XYC s
  | .nop8XYD => Sys2Proof.Machine.execNop8XYD s
  | .nop8XYF => Sys2Proof.Machine.execNop8XYF s
  | .nopEXN0 => Sys2Proof.Machine.execNopEXN0 s
  | .nopEXN2 => Sys2Proof.Machine.execNopEXN2 s
  | .nopEXN3 => Sys2Proof.Machine.execNopEXN3 s
  | .nopEXN4 => Sys2Proof.Machine.execNopEXN4 s
  | .nopEXN5 => Sys2Proof.Machine.execNopEXN5 s
  | .nopEXN6 => Sys2Proof.Machine.execNopEXN6 s
  | .nopEXN7 => Sys2Proof.Machine.execNopEXN7 s
  | .nopEXN8 => Sys2Proof.Machine.execNopEXN8 s
  | .nopEXN9 => Sys2Proof.Machine.execNopEXN9 s
  | .nopEXNA => Sys2Proof.Machine.execNopEXNA s
  | .nopEXNB => Sys2Proof.Machine.execNopEXNB s
  | .nopEXNC => Sys2Proof.Machine.execNopEXNC s
  | .nopEXND => Sys2Proof.Machine.execNopEXND s
  | .nopEXNF => Sys2Proof.Machine.execNopEXNF s
  | .nopFX00 => Sys2Proof.Machine.execNopFX00 s
  | .nopFX01 => Sys2Proof.Machine.execNopFX01 s
  | .nopFX02 => Sys2Proof.Machine.execNopFX02 s
  | .nopFX03 => Sys2Proof.Machine.execNopFX03 s
  | .nopFX04 => Sys2Proof.Machine.execNopFX04 s
  | .nopFX05 => Sys2Proof.Machine.execNopFX05 s
  | .nopFX06 => Sys2Proof.Machine.execNopFX06 s
  | .nopFX08 => Sys2Proof.Machine.execNopFX08 s
  | .nopFX09 => Sys2Proof.Machine.execNopFX09 s
  | .nopFX0B => Sys2Proof.Machine.execNopFX0B s
  | .nopFX0C => Sys2Proof.Machine.execNopFX0C s
  | .nopFX0D => Sys2Proof.Machine.execNopFX0D s
  | .nopFX0E => Sys2Proof.Machine.execNopFX0E s
  | .nopFX0F => Sys2Proof.Machine.execNopFX0F s
  | .nopFX10 => Sys2Proof.Machine.execNopFX10 s
  | .nopFX11 => Sys2Proof.Machine.execNopFX11 s
  | .nopFX12 => Sys2Proof.Machine.execNopFX12 s
  | .nopFX13 => Sys2Proof.Machine.execNopFX13 s
  | .nopFX14 => Sys2Proof.Machine.execNopFX14 s
  | .nopFX16 => Sys2Proof.Machine.execNopFX16 s
  | .nopFX17 => Sys2Proof.Machine.execNopFX17 s
  | .nopFX19 => Sys2Proof.Machine.execNopFX19 s
  | .nopFX1A => Sys2Proof.Machine.execNopFX1A s
  | .nopFX1B => Sys2Proof.Machine.execNopFX1B s
  | .nopFX1C => Sys2Proof.Machine.execNopFX1C s
  | .nopFX1D => Sys2Proof.Machine.execNopFX1D s
  | .nopFX1F => Sys2Proof.Machine.execNopFX1F s
  | .nopFX20 => Sys2Proof.Machine.execNopFX20 s
  | .nopFX21 => Sys2Proof.Machine.execNopFX21 s
  | .nopFX22 => Sys2Proof.Machine.execNopFX22 s
  | .nopFX23 => Sys2Proof.Machine.execNopFX23 s
  | .nopFX24 => Sys2Proof.Machine.execNopFX24 s
  | .nopFX25 => Sys2Proof.Machine.execNopFX25 s
  | .nopFX26 => Sys2Proof.Machine.execNopFX26 s
  | .nopFX27 => Sys2Proof.Machine.execNopFX27 s
  | .nopFX28 => Sys2Proof.Machine.execNopFX28 s
  | .nopFX2A => Sys2Proof.Machine.execNopFX2A s
  | .nopFX2B => Sys2Proof.Machine.execNopFX2B s
  | .nopFX2C => Sys2Proof.Machine.execNopFX2C s
  | .nopFX2D => Sys2Proof.Machine.execNopFX2D s
  | .nopFX2E => Sys2Proof.Machine.execNopFX2E s
  | .nopFX2F => Sys2Proof.Machine.execNopFX2F s
  | .nopFX30 => Sys2Proof.Machine.execNopFX30 s
  | .nopFX31 => Sys2Proof.Machine.execNopFX31 s
  | .nopFX32 => Sys2Proof.Machine.execNopFX32 s
  | .nopFX34 => Sys2Proof.Machine.execNopFX34 s
  | .nopFX35 => Sys2Proof.Machine.execNopFX35 s
  | .nopFX36 => Sys2Proof.Machine.execNopFX36 s
  | .nopFX37 => Sys2Proof.Machine.execNopFX37 s
  | .nopFX38 => Sys2Proof.Machine.execNopFX38 s
  | .nopFX39 => Sys2Proof.Machine.execNopFX39 s
  | .nopFX3A => Sys2Proof.Machine.execNopFX3A s
  | .nopFX3B => Sys2Proof.Machine.execNopFX3B s
  | .nopFX3C => Sys2Proof.Machine.execNopFX3C s
  | .nopFX3D => Sys2Proof.Machine.execNopFX3D s
  | .nopFX3E => Sys2Proof.Machine.execNopFX3E s
  | .nopFX3F => Sys2Proof.Machine.execNopFX3F s
  | .nopFX40 => Sys2Proof.Machine.execNopFX40 s
  | .nopFX41 => Sys2Proof.Machine.execNopFX41 s
  | .nopFX42 => Sys2Proof.Machine.execNopFX42 s
  | .nopFX43 => Sys2Proof.Machine.execNopFX43 s
  | .nopFX44 => Sys2Proof.Machine.execNopFX44 s
  | .nopFX45 => Sys2Proof.Machine.execNopFX45 s
  | .nopFX46 => Sys2Proof.Machine.execNopFX46 s
  | .nopFX47 => Sys2Proof.Machine.execNopFX47 s
  | .nopFX48 => Sys2Proof.Machine.execNopFX48 s
  | .nopFX49 => Sys2Proof.Machine.execNopFX49 s
  | .nopFX4A => Sys2Proof.Machine.execNopFX4A s
  | .nopFX4B => Sys2Proof.Machine.execNopFX4B s
  | .nopFX4C => Sys2Proof.Machine.execNopFX4C s
  | .nopFX4D => Sys2Proof.Machine.execNopFX4D s
  | .nopFX4E => Sys2Proof.Machine.execNopFX4E s
  | .nopFX4F => Sys2Proof.Machine.execNopFX4F s
  | .nopFX50 => Sys2Proof.Machine.execNopFX50 s
  | .nopFX51 => Sys2Proof.Machine.execNopFX51 s
  | .nopFX52 => Sys2Proof.Machine.execNopFX52 s
  | .nopFX53 => Sys2Proof.Machine.execNopFX53 s
  | .nopFX54 => Sys2Proof.Machine.execNopFX54 s
  | .nopFX56 => Sys2Proof.Machine.execNopFX56 s
  | .nopFX57 => Sys2Proof.Machine.execNopFX57 s
  | .nopFX58 => Sys2Proof.Machine.execNopFX58 s
  | .nopFX59 => Sys2Proof.Machine.execNopFX59 s
  | .nopFX5A => Sys2Proof.Machine.execNopFX5A s
  | .nopFX5B => Sys2Proof.Machine.execNopFX5B s
  | .nopFX5C => Sys2Proof.Machine.execNopFX5C s
  | .nopFX5D => Sys2Proof.Machine.execNopFX5D s
  | .nopFX5E => Sys2Proof.Machine.execNopFX5E s
  | .nopFX5F => Sys2Proof.Machine.execNopFX5F s
  | .nopFX60 => Sys2Proof.Machine.execNopFX60 s
  | .nopFX61 => Sys2Proof.Machine.execNopFX61 s
  | .nopFX62 => Sys2Proof.Machine.execNopFX62 s
  | .nopFX63 => Sys2Proof.Machine.execNopFX63 s
  | .nopFX64 => Sys2Proof.Machine.execNopFX64 s
  | .nopFX66 => Sys2Proof.Machine.execNopFX66 s
  | .nopFX67 => Sys2Proof.Machine.execNopFX67 s
  | .nopFX68 => Sys2Proof.Machine.execNopFX68 s
  | .nopFX69 => Sys2Proof.Machine.execNopFX69 s
  | .nopFX6A => Sys2Proof.Machine.execNopFX6A s
  | .nopFX6B => Sys2Proof.Machine.execNopFX6B s
  | .nopFX6C => Sys2Proof.Machine.execNopFX6C s
  | .nopFX6D => Sys2Proof.Machine.execNopFX6D s
  | .nopFX6E => Sys2Proof.Machine.execNopFX6E s
  | .nopFX6F => Sys2Proof.Machine.execNopFX6F s
  | .nopFX70 => Sys2Proof.Machine.execNopFX70 s
  | .nopFX71 => Sys2Proof.Machine.execNopFX71 s
  | .nopFX72 => Sys2Proof.Machine.execNopFX72 s
  | .nopFX73 => Sys2Proof.Machine.execNopFX73 s
  | .nopFX74 => Sys2Proof.Machine.execNopFX74 s
  | .nopFX75 => Sys2Proof.Machine.execNopFX75 s
  | .nopFX76 => Sys2Proof.Machine.execNopFX76 s
  | .nopFX77 => Sys2Proof.Machine.execNopFX77 s
  | .nopFX78 => Sys2Proof.Machine.execNopFX78 s
  | .nopFX79 => Sys2Proof.Machine.execNopFX79 s
  | .nopFX7A => Sys2Proof.Machine.execNopFX7A s
  | .nopFX7B => Sys2Proof.Machine.execNopFX7B s
  | .nopFX7C => Sys2Proof.Machine.execNopFX7C s
  | .nopFX7D => Sys2Proof.Machine.execNopFX7D s
  | .nopFX7E => Sys2Proof.Machine.execNopFX7E s
  | .nopFX7F => Sys2Proof.Machine.execNopFX7F s
  | .nopFX80 => Sys2Proof.Machine.execNopFX80 s
  | .nopFX81 => Sys2Proof.Machine.execNopFX81 s
  | .nopFX82 => Sys2Proof.Machine.execNopFX82 s
  | .nopFX83 => Sys2Proof.Machine.execNopFX83 s
  | .nopFX84 => Sys2Proof.Machine.execNopFX84 s
  | .nopFX85 => Sys2Proof.Machine.execNopFX85 s
  | .nopFX86 => Sys2Proof.Machine.execNopFX86 s
  | .nopFX87 => Sys2Proof.Machine.execNopFX87 s
  | .nopFX88 => Sys2Proof.Machine.execNopFX88 s
  | .nopFX89 => Sys2Proof.Machine.execNopFX89 s
  | .nopFX8A => Sys2Proof.Machine.execNopFX8A s
  | .nopFX8B => Sys2Proof.Machine.execNopFX8B s
  | .nopFX8C => Sys2Proof.Machine.execNopFX8C s
  | .nopFX8D => Sys2Proof.Machine.execNopFX8D s
  | .nopFX8E => Sys2Proof.Machine.execNopFX8E s
  | .nopFX8F => Sys2Proof.Machine.execNopFX8F s
  | .nopFX90 => Sys2Proof.Machine.execNopFX90 s
  | .nopFX91 => Sys2Proof.Machine.execNopFX91 s
  | .nopFX92 => Sys2Proof.Machine.execNopFX92 s
  | .nopFX93 => Sys2Proof.Machine.execNopFX93 s
  | .nopFX94 => Sys2Proof.Machine.execNopFX94 s
  | .nopFX95 => Sys2Proof.Machine.execNopFX95 s
  | .nopFX96 => Sys2Proof.Machine.execNopFX96 s
  | .nopFX97 => Sys2Proof.Machine.execNopFX97 s
  | .nopFX98 => Sys2Proof.Machine.execNopFX98 s
  | .nopFX99 => Sys2Proof.Machine.execNopFX99 s
  | .nopFX9A => Sys2Proof.Machine.execNopFX9A s
  | .nopFX9B => Sys2Proof.Machine.execNopFX9B s
  | .nopFX9C => Sys2Proof.Machine.execNopFX9C s
  | .nopFX9D => Sys2Proof.Machine.execNopFX9D s
  | .nopFX9E => Sys2Proof.Machine.execNopFX9E s
  | .nopFX9F => Sys2Proof.Machine.execNopFX9F s
  | .nopFXA0 => Sys2Proof.Machine.execNopFXA0 s
  | .nopFXA1 => Sys2Proof.Machine.execNopFXA1 s
  | .nopFXA2 => Sys2Proof.Machine.execNopFXA2 s
  | .nopFXA3 => Sys2Proof.Machine.execNopFXA3 s
  | .nopFXA4 => Sys2Proof.Machine.execNopFXA4 s
  | .nopFXA5 => Sys2Proof.Machine.execNopFXA5 s
  | .nopFXA6 => Sys2Proof.Machine.execNopFXA6 s
  | .nopFXA7 => Sys2Proof.Machine.execNopFXA7 s
  | .nopFXA8 => Sys2Proof.Machine.execNopFXA8 s
  | .nopFXA9 => Sys2Proof.Machine.execNopFXA9 s
  | .nopFXAA => Sys2Proof.Machine.execNopFXAA s
  | .nopFXAB => Sys2Proof.Machine.execNopFXAB s
  | .nopFXAC => Sys2Proof.Machine.execNopFXAC s
  | .nopFXAD => Sys2Proof.Machine.execNopFXAD s
  | .nopFXAE => Sys2Proof.Machine.execNopFXAE s
  | .nopFXAF => Sys2Proof.Machine.execNopFXAF s
  | .nopFXB0 => Sys2Proof.Machine.execNopFXB0 s
  | .nopFXB1 => Sys2Proof.Machine.execNopFXB1 s
  | .nopFXB2 => Sys2Proof.Machine.execNopFXB2 s
  | .nopFXB3 => Sys2Proof.Machine.execNopFXB3 s
  | .nopFXB4 => Sys2Proof.Machine.execNopFXB4 s
  | .nopFXB5 => Sys2Proof.Machine.execNopFXB5 s
  | .nopFXB6 => Sys2Proof.Machine.execNopFXB6 s
  | .nopFXB7 => Sys2Proof.Machine.execNopFXB7 s
  | .nopFXB8 => Sys2Proof.Machine.execNopFXB8 s
  | .nopFXB9 => Sys2Proof.Machine.execNopFXB9 s
  | .nopFXBA => Sys2Proof.Machine.execNopFXBA s
  | .nopFXBB => Sys2Proof.Machine.execNopFXBB s
  | .nopFXBC => Sys2Proof.Machine.execNopFXBC s
  | .nopFXBD => Sys2Proof.Machine.execNopFXBD s
  | .nopFXBE => Sys2Proof.Machine.execNopFXBE s
  | .nopFXBF => Sys2Proof.Machine.execNopFXBF s
  | .nopFXC0 => Sys2Proof.Machine.execNopFXC0 s
  | .nopFXC1 => Sys2Proof.Machine.execNopFXC1 s
  | .nopFXC2 => Sys2Proof.Machine.execNopFXC2 s
  | .nopFXC3 => Sys2Proof.Machine.execNopFXC3 s
  | .nopFXC4 => Sys2Proof.Machine.execNopFXC4 s
  | .nopFXC5 => Sys2Proof.Machine.execNopFXC5 s
  | .nopFXC6 => Sys2Proof.Machine.execNopFXC6 s
  | .nopFXC7 => Sys2Proof.Machine.execNopFXC7 s
  | .nopFXC8 => Sys2Proof.Machine.execNopFXC8 s
  | .nopFXC9 => Sys2Proof.Machine.execNopFXC9 s
  | .nopFXCA => Sys2Proof.Machine.execNopFXCA s
  | .nopFXCB => Sys2Proof.Machine.execNopFXCB s
  | .nopFXCC => Sys2Proof.Machine.execNopFXCC s
  | .nopFXCD => Sys2Proof.Machine.execNopFXCD s
  | .nopFXCE => Sys2Proof.Machine.execNopFXCE s
  | .nopFXCF => Sys2Proof.Machine.execNopFXCF s
  | .nopFXD0 => Sys2Proof.Machine.execNopFXD0 s
  | .nopFXD1 => Sys2Proof.Machine.execNopFXD1 s
  | .nopFXD2 => Sys2Proof.Machine.execNopFXD2 s
  | .nopFXD3 => Sys2Proof.Machine.execNopFXD3 s
  | .nopFXD4 => Sys2Proof.Machine.execNopFXD4 s
  | .nopFXD5 => Sys2Proof.Machine.execNopFXD5 s
  | .nopFXD6 => Sys2Proof.Machine.execNopFXD6 s
  | .nopFXD7 => Sys2Proof.Machine.execNopFXD7 s
  | .nopFXD8 => Sys2Proof.Machine.execNopFXD8 s
  | .nopFXD9 => Sys2Proof.Machine.execNopFXD9 s
  | .nopFXDA => Sys2Proof.Machine.execNopFXDA s
  | .nopFXDB => Sys2Proof.Machine.execNopFXDB s
  | .nopFXDC => Sys2Proof.Machine.execNopFXDC s
  | .nopFXDD => Sys2Proof.Machine.execNopFXDD s
  | .nopFXDE => Sys2Proof.Machine.execNopFXDE s
  | .nopFXDF => Sys2Proof.Machine.execNopFXDF s
  | .nopFXE0 => Sys2Proof.Machine.execNopFXE0 s
  | .nopFXE1 => Sys2Proof.Machine.execNopFXE1 s
  | .nopFXE2 => Sys2Proof.Machine.execNopFXE2 s
  | .nopFXE3 => Sys2Proof.Machine.execNopFXE3 s
  | .nopFXE4 => Sys2Proof.Machine.execNopFXE4 s
  | .nopFXE5 => Sys2Proof.Machine.execNopFXE5 s
  | .nopFXE6 => Sys2Proof.Machine.execNopFXE6 s
  | .nopFXE7 => Sys2Proof.Machine.execNopFXE7 s
  | .nopFXE8 => Sys2Proof.Machine.execNopFXE8 s
  | .nopFXE9 => Sys2Proof.Machine.execNopFXE9 s
  | .nopFXEA => Sys2Proof.Machine.execNopFXEA s
  | .nopFXEB => Sys2Proof.Machine.execNopFXEB s
  | .nopFXEC => Sys2Proof.Machine.execNopFXEC s
  | .nopFXED => Sys2Proof.Machine.execNopFXED s
  | .nopFXEE => Sys2Proof.Machine.execNopFXEE s
  | .nopFXEF => Sys2Proof.Machine.execNopFXEF s
  | .nopFXF0 => Sys2Proof.Machine.execNopFXF0 s
  | .nopFXF1 => Sys2Proof.Machine.execNopFXF1 s
  | .nopFXF2 => Sys2Proof.Machine.execNopFXF2 s
  | .nopFXF3 => Sys2Proof.Machine.execNopFXF3 s
  | .nopFXF4 => Sys2Proof.Machine.execNopFXF4 s
  | .nopFXF5 => Sys2Proof.Machine.execNopFXF5 s
  | .nopFXF6 => Sys2Proof.Machine.execNopFXF6 s
  | .nopFXF7 => Sys2Proof.Machine.execNopFXF7 s
  | .nopFXF8 => Sys2Proof.Machine.execNopFXF8 s
  | .nopFXF9 => Sys2Proof.Machine.execNopFXF9 s
  | .nopFXFA => Sys2Proof.Machine.execNopFXFA s
  | .nopFXFB => Sys2Proof.Machine.execNopFXFB s
  | .nopFXFC => Sys2Proof.Machine.execNopFXFC s
  | .nopFXFD => Sys2Proof.Machine.execNopFXFD s
  | .nopFXFE => Sys2Proof.Machine.execNopFXFE s
  | .nopFXFF => Sys2Proof.Machine.execNopFXFF s

end Sys2Proof.Machine
end

