-- ==== Sys2Proof/Machine/Cycle.lean ====
section
/-! DEFINITION. One Cycle (R120). -/

namespace Sys2Proof.Machine

/-- The end of a Cycle whose word `w` was executed. A Cycle that faulted commits only the fault (R10, R242);
any other latches its word and ticks the timers (R31, R248). The word is latched here and not before Execute,
since no handler reads it (R31; log entry 4). -/
def State.finish (t : State) (w : Word) : State :=
  if t.fault = .none then (t.latch w).tick else t

/-- The Cycle (R120): nothing on a halted machine (R243); else fetch, dispatch and execute, which advances
`pc`, and the tick. -/
def cycle (s : State) : Result :=
  if s.fault = .none then
    match s.memory.fetch s.pc.toNat with
    | .error k => commit s (.error k)
    | .ok w =>
      match exec (decodeWord w) s with
      | .next t => .next (t.finish w)
      | .fault r => .fault r
      | .refused r => .refused r
  else .next s

end Sys2Proof.Machine
end

