-- ==== Sys2Proof/Machine/Step.lean ====
section
/-! DEFINITION. One step: the host's keypad write, where `keypadInput` holds one, and then one Cycle (R30,
R120, R256). -/

namespace Sys2Proof.Machine

/-- One step of the machine. -/
def step (s : State) : Host.Outcome State Fault Refusal := cycle s.presentKeys

/-- `s` with the instruction word `w` at its `pc`, where the next step fetches it. -/
def State.withFetchWord (s : State) (nbits w : Nat) : State :=
  s.placeWord (BitVec.ofNat 16 (w % 2 ^ nbits))

end Sys2Proof.Machine
end

