-- ==== Sys2Proof/Machine/HostOps.lean ====
section
/-! DEFINITION. The host's operations between Cycles (R256 of spec/60_exceptions.md): Reset, Load, and the
reads. The keypad write is `State.writeKeypad`, in Sys2Proof/Machine/Ops.lean. -/

namespace Sys2Proof.Machine

/-- Reset (R270), the only way out of the halted state (R245). What R270 does not write stays: the stack
entries, which it leaves unspecified, the font parameters and the host's coming keypad writes. The seeding
of the random source continues the sequence of free values (log entry 11). -/
def State.hostReset (s : State) : State where
  memory := { cells := [], font := s.memory.font }
  v := Vector.replicate 16 0
  index := 0
  pc := BitVec.ofNat 16 Config.programBase
  stack := s.stack
  sp := 0
  delayTimer := 0
  soundTimer := 0
  fb := Framebuffer.dark
  keypad := Vector.replicate 16 false
  opcode := 0
  randomSource := s.randomSource
  fault := .none
  keypadInput := s.keypadInput

/-- Load (R272): the bytes are copied from 0x200 on; a payload above MAX_ROM bytes is rejected whole and
reported as a failure, `none`, with the state as it was (R273). -/
def State.load (s : State) (bytes : List Byte) : Option State :=
  if romWellFormed bytes then some (s.setMemory (s.memory.putBytes Config.programBase bytes)) else none

/-- The host's read of the framebuffer: 2048 cells in row-major order, 0 for off and a free non-zero value
for lit (R200, R205, U12). -/
def State.readFramebuffer (s : State) : List (BitVec 32) :=
  (List.range (Config.fbHeight * Config.fbWidth)).map fun cell =>
    if s.fb.pixel (cell / Config.fbWidth) (cell % Config.fbWidth) then Config.litCell else 0

/-- The host's read of `delayTimer` (R27). -/
def State.readDelayTimer (s : State) : Byte := s.delayTimer

/-- The host's read of `soundTimer`: non-zero means "play tone" (R28). -/
def State.readSoundTimer (s : State) : Byte := s.soundTimer

/-- The host's read of the `fault` register, a code 0 to 7 (R33). -/
def State.readFault (s : State) : BitVec 3 := s.fault.code

end Sys2Proof.Machine
end

