-- ==== Sys2Proof/Safety.lean ====
section
/-! DEFINITION. What claims are stated in: a failed machine, a run that did not fail, and the invariant of the
machine. -/

namespace Sys2Proof.Machine

/-- The state a meaning or a step answers, if it answers one. -/
def nextOf : Result → Option State
  | .next t => some t
  | .fault _ => none
  | .refused _ => none

/-- A halted machine, a failed run: the `fault` register is set (R133, R243). -/
def State.failed (s : State) : Bool := decide (s.fault ≠ .none)

/-- `k` steps that all leave `fault` clear, as every claim about a program must show (R243). -/
def runsSafely : Nat → State → Bool
  | 0, s => !s.failed
  | k + 1, s => !s.failed && (match step s with
    | .next t => runsSafely k t
    | .fault _ => false
    | .refused _ => false)

/-- The live entries of the return stack, `stack[0..sp-1]`, each hold an address a call pushed: at most 4096
(R25, R131). -/
def State.liveStackBounded (s : State) : Prop :=
  ∀ k (h : k < 16), k < s.sp.val → (s.stack[k]'h).toNat ≤ 4096

/-- The invariant of the machine: memory in its canonical form and the font within R6's bound, pc at most
4350, live stack entries at most 4096 (R131). The bound 0 ≤ sp ≤ 16 of R26 is `State.sp`'s type. -/
structure State.Inv (s : State) : Prop where
  memoryWf : s.memory.wf = true
  fontWf : s.memory.font.wellFormed = true
  pcBounded : s.pc.toNat ≤ 4350
  stackBounded : s.liveStackBounded

end Sys2Proof.Machine
end

