-- ==== Sys2Proof/Certificates/Slice0/Obligations.lean ====
section
/-! DEFINITION. The statements for the provers. `Sys2Proof.Claims` holds the terms they share; each docstring
names the rule of spec/ it formalises. Where a statement about `step` speaks of `presentKeys`, that is the host's
keypad write as the first part of a step, the model's form of the keypad input (log entry 3). -/

namespace Sys2Proof.Claims

open Sys2Proof Sys2Proof.Machine

/-! ## Terms -/

/-- The big-endian word at `pc`, the one the next fetch reads (R62). -/
def wordAt (s : State) : Word :=
  wordOfBytes ((s.memory.read s.pc.toNat).getD 0) ((s.memory.read (s.pc.toNat + 1)).getD 0)

/-- Key(k); false for a number that names no key. -/
def key (s : State) (k : Nat) : Bool := if h : k < 16 then s.keypad[k]'h else false

/-- Every byte of memory reads as before. -/
def SameBytes (s t : State) : Prop := ∀ a, t.memory.read a = s.memory.read a

/-- Every register reads as before. -/
def SameRegs (s t : State) : Prop := ∀ r, t.reg r = s.reg r

/-- Frame of an instruction that changes nothing but `pc`. -/
def PcFrame (s t : State) : Prop := t = { s with pc := t.pc } ∧ SameRegs s t ∧ SameBytes s t

/-- Frame of an instruction that goes on to the next word and writes nothing but the registers in `dest`. -/
def RegFrame (s t : State) (dest : List RegNum) : Prop :=
  t.pc = s.pc + 2 ∧ t = { s with v := t.v, pc := t.pc } ∧ (∀ r, r ∉ dest → t.reg r = s.reg r) ∧ SameBytes s t

/-- Frame of an instruction that goes on to the next word and writes nothing but `index`. -/
def IndexFrame (s t : State) : Prop :=
  t.pc = s.pc + 2 ∧ t = { s with index := t.index, pc := t.pc } ∧ SameRegs s t ∧ SameBytes s t

/-- Frame of an instruction that goes on to the next word and stores to the `n` bytes at `a` and nowhere
else; a Reset would still restore the same font. -/
def StoreFrame (s t : State) (a n : Nat) : Prop :=
  t.pc = s.pc + 2 ∧ t = { s with memory := t.memory, pc := t.pc } ∧ SameRegs s t ∧
    t.memory.font = s.memory.font ∧ ∀ b, b < a ∨ a + n ≤ b → t.memory.read b = s.memory.read b

/-- The bit of a sprite's row and column, bit 7 of the byte at `index + row` leftmost (R202). -/
def sprite (s : State) (row col : Nat) : Bool :=
  ((s.memory.read (s.index.toNat + row)).getD 0).getLsbD (7 - col)

/-- What R37 lists for the state after Reset, with `f` for the font parameters. The stack entries and the
random source, which it leaves unspecified, are not mentioned. -/
def HoldsResetValues (t : State) (f : Config.Font) : Prop :=
  (∀ r, t.reg r = 0) ∧
    (∀ g j, (hg : g < f.glyphs.length) → (hj : j < 5) →
      t.memory.read (f.base + 5 * g + j) = some ((f.glyphs[g]'hg)[j]'hj)) ∧
    (∀ a, a < 4096 → a < f.base ∨ f.base + 5 * f.glyphs.length ≤ a → t.memory.read a = some 0) ∧
    t.pc.toNat = 0x200 ∧ t.index.toNat = 0 ∧ t.sp.val = 0 ∧
    t.delayTimer.toNat = 0 ∧ t.soundTimer.toNat = 0 ∧
    (∀ y x, (hy : y < 32) → (hx : x < 64) → (t.fb[y]'hy)[x]'hx = false) ∧
    (∀ k, (hk : k < 16) → t.keypad[k]'hk = false) ∧ t.opcode.toNat = 0 ∧ t.readFault.toNat = 0

/-- The code that R241 says the next Cycle leaves in the `fault` register of a machine that is not halted. -/
def faultCode (s : State) : Nat :=
  if s.pc.toNat > 4094 then 1
  else match decodeWord (wordAt s) with
    | .op2NNN _ => if s.sp.val = 16 then 2 else 0
    | .op00EE => if s.sp.val = 0 then 3 else 0
    | .opFX65 x => if s.index.toNat + x.toNat > 4095 then 4 else 0
    | .opFX33 _ => if s.index.toNat + 2 > 4095 then 5 else 0
    | .opFX55 x => if s.index.toNat + x.toNat > 4095 then 5 else 0
    | .opDXYN x y n =>
      if n.toNat > 0 ∧ s.index.toNat + n.toNat - 1 > 4095 then 4
      else if n.toNat > 0 ∧ ((s.reg x).toNat % 64 > 56 ∨ (s.reg y).toNat % 64 + n.toNat > 32) then 6
      else 0
    | .opEX9E x => if (s.reg x).toNat > 15 then 7 else 0
    | .opEXA1 x => if (s.reg x).toNat > 15 then 7 else 0
    | _ => 0

/-- `pc` after a Cycle that does not fault, by the classes of R130; `s` is the state before it. -/
def nextPc (i : Instr) (s : State) : Word :=
  let skipIf (c : Bool) : Word := if c then s.pc + 4 else s.pc + 2
  match i with
  | .op1NNN nnn => nnn.setWidth 16
  | .op2NNN nnn => nnn.setWidth 16
  | .opBNNN nnn => (s.reg 0).setWidth 16 + nnn.setWidth 16
  | .op00EE => (s.stack.toList.getD (s.sp.val - 1) 0)
  | .op3XKK x kk => skipIf (s.reg x == kk)
  | .op4XKK x kk => skipIf (s.reg x != kk)
  | .op5XY0 x y => skipIf (s.reg x == s.reg y)
  | .op9XY0 x y => skipIf (s.reg x != s.reg y)
  | .opEX9E x => skipIf (key s (s.reg x).toNat)
  | .opEXA1 x => skipIf (!key s (s.reg x).toNat)
  | .opFX0A _ => if s.keypad.toList.contains true then s.pc + 2 else s.pc
  | _ => s.pc + 2

/-- Whether an instruction may write the register `r`: as its destination, or VF as a flag (R20, R22). -/
def mayWrite (i : Instr) (r : RegNum) : Bool :=
  match i with
  | .op6XKK x _ => r == x
  | .op7XKK x _ => r == x
  | .op8XY0 x _ => r == x
  | .op8XY1 x _ => r == x
  | .op8XY2 x _ => r == x
  | .op8XY3 x _ => r == x
  | .op8XY4 x _ => r == x || r == 0xF
  | .op8XY5 x _ => r == x || r == 0xF
  | .op8XY6 x _ => r == x || r == 0xF
  | .op8XY7 x _ => r == x || r == 0xF
  | .op8XYE x _ => r == x || r == 0xF
  | .opCXKK x _ => r == x
  | .opDXYN _ _ _ => r == 0xF
  | .opFX07 x => r == x
  | .opFX0A x => r == x
  | .opFX65 x => decide (r.toNat ≤ x.toNat)
  | _ => false

/-- Whether an instruction leaves a flag in VF: the five arithmetic ones whose result does not go to VF, and
DXYN (R22, R150). -/
def leavesFlag : Instr → Bool
  | .op8XY4 x _ => x != 0xF
  | .op8XY5 x _ => x != 0xF
  | .op8XY6 x _ => x != 0xF
  | .op8XY7 x _ => x != 0xF
  | .op8XYE x _ => x != 0xF
  | .opDXYN _ _ _ => true
  | _ => false

/-- Whether an instruction reads the keypad (R20, R226). -/
def readsKeypad : Instr → Bool
  | .opEX9E _ => true
  | .opEXA1 _ => true
  | .opFX0A _ => true
  | _ => false

/-- The answer with its next state changed by `f`. -/
def mapNext (f : State → State) : Result → Result
  | .next t => .next (f t)
  | .fault r => .fault r
  | .refused r => .refused r

/-- Two states that agree on everything but the dead entries of the return stack (R25). -/
def AgreeButDeadEntries (s u : State) : Prop :=
  u = { s with stack := u.stack } ∧ ∀ k, (h : k < 16) → k < s.sp.val → u.stack[k]'h = s.stack[k]'h

end Sys2Proof.Claims

open Sys2Proof Sys2Proof.Machine Sys2Proof.Claims

/-! ## Encoding -/

/-- Words written out bit by bit from the field table of R91 and the map of R102, one or more a family; the
first three are the source's own (S9 of spec/95_test_vectors.md). -/
def Obligations.WrittenOutWordsDecode : Prop :=
  decodeWord 0b0110_1010_00000101 = .op6XKK 0xA 0x05 ∧ decodeWord 0b1010_001001010000 = .opANNN 0x250 ∧
    decodeWord 0b1101_0000_1010_0000 = .opDXYN 0x0 0xA 0x0 ∧ decodeWord 0b0000_0000_1110_1110 = .op00EE ∧
    decodeWord 0b0000_0000_0000_0000 = .op00E0 ∧ decodeWord 0b0101_0001_0010_1111 = .op5XY0 0x1 0x2 ∧
    decodeWord 0b1000_0001_0010_0100 = .op8XY4 0x1 0x2 ∧ decodeWord 0b1000_0001_0010_1000 = .nop8XY8 ∧
    decodeWord 0b1110_0101_1001_1110 = .opEX9E 0x5 ∧ decodeWord 0b1110_0101_1111_0001 = .opEXA1 0x5 ∧
    decodeWord 0b1111_0010_01010101 = .opFX55 0x2 ∧ decodeWord 0b1111_0101_01110101 = .nopFX75 ∧
    decodeWord 0b0000_0000_0000_0001 = .nop0NN1 ∧ decodeWord 0b1110_0101_1001_1111 = .nopEXNF

/-- Every instruction, with every operand, is decoded from its own two bytes, whatever follows them
(R90, R91, R102). -/
def Obligations.DecodeOfEncodeIsIdentity : Prop :=
  ∀ (i : Instr) (rest : List Byte), i.wellFormed = true → decode (encodeBytes i ++ rest) = .ok (i, rest)

/-- R102, R106: a word selects the row it decodes to, and no other. -/
def Obligations.EveryWordSelectsItsRowAlone : Prop :=
  ∀ w : Word, w &&& (decodeWord w).row.mask = (decodeWord w).row.pattern ∧
    ∀ i : Instr, w &&& i.row.mask = i.row.pattern → i.row = (decodeWord w).row

/-- R94 to R99: the twelve direct families, and the selectors of the four compound ones. -/
def Obligations.DispatchOfEveryFamily : Prop :=
  (∀ (x y : RegNum) (n : Nibble) (kk : Byte) (nnn : Addr12),
    decodeWord (0x1#4 ++ nnn) = .op1NNN nnn ∧ decodeWord (0x2#4 ++ nnn) = .op2NNN nnn ∧
    decodeWord (0x3#4 ++ x ++ kk) = .op3XKK x kk ∧ decodeWord (0x4#4 ++ x ++ kk) = .op4XKK x kk ∧
    decodeWord (0x5#4 ++ x ++ y ++ n) = .op5XY0 x y ∧ decodeWord (0x6#4 ++ x ++ kk) = .op6XKK x kk ∧
    decodeWord (0x7#4 ++ x ++ kk) = .op7XKK x kk ∧ decodeWord (0x9#4 ++ x ++ y ++ n) = .op9XY0 x y ∧
    decodeWord (0xA#4 ++ nnn) = .opANNN nnn ∧ decodeWord (0xB#4 ++ nnn) = .opBNNN nnn ∧
    decodeWord (0xC#4 ++ x ++ kk) = .opCXKK x kk ∧ decodeWord (0xD#4 ++ x ++ y ++ n) = .opDXYN x y n) ∧
  (∀ (mid : Byte) (n : Nibble), let i := decodeWord (0x0#4 ++ mid ++ n)
    if n = 0x0 then i = .op00E0 else if n = 0xE then i = .op00EE else i.isUnassigned = true) ∧
  (∀ (x y : RegNum) (n : Nibble), let i := decodeWord (0x8#4 ++ x ++ y ++ n)
    if n = 0x0 then i = .op8XY0 x y else if n = 0x1 then i = .op8XY1 x y
    else if n = 0x2 then i = .op8XY2 x y else if n = 0x3 then i = .op8XY3 x y
    else if n = 0x4 then i = .op8XY4 x y else if n = 0x5 then i = .op8XY5 x y
    else if n = 0x6 then i = .op8XY6 x y else if n = 0x7 then i = .op8XY7 x y
    else if n = 0xE then i = .op8XYE x y else i.isUnassigned = true) ∧
  (∀ (x : RegNum) (mid n : Nibble), let i := decodeWord (0xE#4 ++ x ++ mid ++ n)
    if n = 0x1 then i = .opEXA1 x else if n = 0xE then i = .opEX9E x else i.isUnassigned = true) ∧
  (∀ (x : RegNum) (kk : Byte), let i := decodeWord (0xF#4 ++ x ++ kk)
    if kk = 0x07 then i = .opFX07 x else if kk = 0x0A then i = .opFX0A x
    else if kk = 0x15 then i = .opFX15 x else if kk = 0x18 then i = .opFX18 x
    else if kk = 0x1E then i = .opFX1E x else if kk = 0x29 then i = .opFX29 x
    else if kk = 0x33 then i = .opFX33 x else if kk = 0x55 then i = .opFX55 x
    else if kk = 0x65 then i = .opFX65 x else i.isUnassigned = true)

/-! ## Reset and the host -/

/-- R37, the rows beyond the three of the source by the spec's decision D12. The font parameters are those the
machine has; that State.reset has the spec's default ones is the model's choice (log entry 1) and is not
claimed. -/
def Obligations.ResetStateHoldsTheSpecValues : Prop :=
  HoldsResetValues State.reset State.reset.memory.font

/-- R270, R245: Reset leaves these values from any state, the halted one included, and keeps the machine's
font parameters. -/
def Obligations.HostResetRestartsFromAnyState : Prop :=
  ∀ s : State, s.memory.font.wellFormed = true →
    HoldsResetValues s.hostReset s.memory.font ∧ s.hostReset.memory.font = s.memory.font

/-- R272, R273: Load copies the bytes to 0x200 and changes nothing else, or rejects an oversized program
whole (D16). -/
def Obligations.LoadCopiesOrRejects : Prop :=
  ∀ (s : State) (bytes : List Byte), s.memory.wf = true →
    if bytes.length ≤ 3584 then
      ∃ t, s.load bytes = some t ∧
        (∀ i, (h : i < bytes.length) → t.memory.read (0x200 + i) = some (bytes[i]'h)) ∧
        (∀ a, a < 0x200 ∨ 0x200 + bytes.length ≤ a → t.memory.read a = s.memory.read a) ∧
        t = { s with memory := t.memory } ∧ t.memory.font = s.memory.font
    else s.load bytes = none

/-- R256, R131: the host's operations keep the invariant of the machine. -/
def Obligations.HostOperationsKeepInvariant : Prop :=
  ∀ s : State, s.Inv → s.hostReset.Inv ∧ (∀ keys, (s.writeKeypad keys).Inv) ∧ s.presentKeys.Inv ∧
    ∀ bytes t, s.load bytes = some t → t.Inv

/-- R200, R205: 2048 cells, cell y * 64 + x non-zero exactly where fb[y][x] is lit. The lit value is free
(log entry 8). -/
def Obligations.FramebufferReadoutIsRowMajor : Prop :=
  ∀ s : State, s.readFramebuffer.length = 2048 ∧
    ∀ y x, (hy : y < 32) → (hx : x < 64) →
      ∃ c, s.readFramebuffer[y * 64 + x]? = some c ∧ (c ≠ 0 ↔ (s.fb[y]'hy)[x]'hx = true)

/-! ## The Cycle -/

/-- When the two bytes at `pc` decode to an instruction, the step of a machine that is not halted is `exec` of
it, after the host's keypad write; a Cycle that did not fault then latches the word and ticks. What a Cycle
comes to is R120. Its shape here is the model's: `exec` on the state before the fetch, advancing `pc` itself, and
`opcode` latched after it are the DEDUCED choice of log entry 4 (R120 latches and advances before Execute), and
the keypad write as the first part of a step is the DESIGN CHOICE of log entry 3 (R30, R226, D22). -/
def Obligations.StepRunsTheDecodedInstruction : Prop :=
  ∀ (s : State) (hi lo : Byte) (i : Instr), s.fault = .none → s.memory.read s.pc.toNat = some hi →
    s.memory.read (s.pc.toNat + 1) = some lo → decode [hi, lo] = .ok (i, []) → i.wellFormed = true →
    step s = match exec i s.presentKeys with
      | .next t => .next (if t.fault = .none then (t.latch (wordOfBytes hi lo)).tick else t)
      | .fault r => .fault r
      | .refused r => .refused r

/-- R62, R65: the fetch is big-endian at every address up to 4094, odd ones included, and faults above (D2). -/
def Obligations.FetchIsBigEndianOrFaults : Prop :=
  (∀ (m : Memory) (a : Nat) (hi lo : Byte), m.read a = some hi → m.read (a + 1) = some lo →
    ∃ w, m.fetch a = .ok w ∧ w.toNat = hi.toNat * 256 + lo.toNat) ∧
  (∀ (m : Memory) (a : Nat), a > 4094 → m.fetch a = .error .fetchOob) ∧
  ∀ s : State, s.fault = .none → s.pc.toNat > 4094 →
    step s = .next { s.presentKeys with fault := .fetchOob }

/-- R243: a Cycle of a halted machine changes nothing, whatever the host writes to the keypad, and so does any
number of them. -/
def Obligations.HaltedMachineChangesNothing : Prop :=
  ∀ s : State, s.fault ≠ .none →
    step s = .next s.presentKeys ∧
      (s.presentKeys = { s with keypad := s.presentKeys.keypad, keypadInput := s.keypadInput.tail }) ∧
      ∀ k, s.keypadInput = [] → Host.Core.run Sys2Proof.core k s = .next s

/-- R242, R10: a Cycle that faults writes `fault` and nothing else (D1). -/
def Obligations.FaultingCycleWritesOnlyFault : Prop :=
  ∀ s t : State, s.fault = .none → step s = .next t → t.fault ≠ .none →
    t = { s.presentKeys with fault := t.fault }

/-- R241, R244, R258: the code each Cycle leaves in the `fault` register, for every instruction. The kinds and
what raises them are the spec's decisions D1 to D6 and D26. -/
def Obligations.FaultKindsAreExactlyTheTable : Prop :=
  ∀ s : State, s.fault = .none → ∃ t, step s = .next t ∧ t.readFault.toNat = faultCode s

/-- Every step of every state answers a next state. That a faulting Cycle and a halted one answer a next state
and never a fault outcome is the model's choice, DEDUCED in log entry 4 from what R242 and R243 say they write;
R243 also calls a faulted state a fault outcome for claims, which `State.failed` stands for. That no word is
refused is R106. -/
def Obligations.StepAlwaysAnswersNext : Prop :=
  ∀ s : State, ∃ t, step s = .next t

/-- R248: each timer goes down by one at the end of a Cycle that did not fault and stops at 0; no tick on a
fault or in the halted state. That the tick follows the write of FX15 and FX18 is R249, which the spec derives;
that these two write delayTimer and soundTimer is R224, R225 by D11, from general knowledge (log entry 15). -/
def Obligations.TimersTickOncePerCycle : Prop :=
  ∀ s t : State, step s = .next t →
    if t.fault = .none then
      t.delayTimer.toNat = (match decodeWord (wordAt s) with
        | .opFX15 x => (s.reg x).toNat
        | _ => s.delayTimer.toNat) - 1 ∧
      t.soundTimer.toNat = (match decodeWord (wordAt s) with
        | .opFX18 x => (s.reg x).toNat
        | _ => s.soundTimer.toNat) - 1
    else t.delayTimer = s.delayTimer ∧ t.soundTimer = s.soundTimer

/-- R31: a Cycle that did not fault leaves its word in `opcode`; any other leaves `opcode` alone. -/
def Obligations.OpcodeLatchHoldsTheFetchedWord : Prop :=
  ∀ s t : State, step s = .next t → t.opcode = if t.fault = .none then wordAt s else s.opcode

/-- R130: `pc` after a Cycle that did not fault, by instruction class. -/
def Obligations.ProgramCounterAdvancesByClass : Prop :=
  ∀ s t : State, step s = .next t → t.fault = .none →
    t.pc = nextPc (decodeWord (wordAt s)) s.presentKeys

/-- The machine right after Reset meets the invariant. -/
def Obligations.InvariantHoldsAtReset : Prop := State.reset.Inv

/-- R131, R26: every step keeps the invariant: memory canonical, pc at most 4350, every live return address at
most 4096. -/
def Obligations.StepKeepsInvariant : Prop :=
  ∀ s t : State, s.Inv → step s = .next t → t.Inv

/-- R25: entries of the stack at and above `sp` are dead: no step can tell two states apart by them, however
they differ. So nothing rests on the value the stack holds at Reset (log entry 5). -/
def Obligations.DeadStackEntriesAreNeverRead : Prop :=
  ∀ s u t : State, AgreeButDeadEntries s u → step s = .next t →
    ∃ t', step u = .next t' ∧ AgreeButDeadEntries t t'

/-- R20: which instructions write each piece of state; no instruction writes the keypad, the opcode latch or
the font parameters. -/
def Obligations.OnlyNamedInstructionsWriteEachField : Prop :=
  ∀ (i : Instr) (s t : State), exec i s = .next t →
    (t.memory ≠ s.memory → ∃ x, i = .opFX33 x ∨ i = .opFX55 x) ∧
    (t.v ≠ s.v → ∃ r, mayWrite i r = true) ∧
    (t.index ≠ s.index → (∃ nnn, i = .opANNN nnn) ∨ ∃ x, i = .opFX1E x ∨ i = .opFX29 x) ∧
    (t.stack ≠ s.stack → ∃ nnn, i = .op2NNN nnn) ∧
    (t.sp ≠ s.sp → i = .op00EE ∨ ∃ nnn, i = .op2NNN nnn) ∧
    (t.delayTimer ≠ s.delayTimer → ∃ x, i = .opFX15 x) ∧
    (t.soundTimer ≠ s.soundTimer → ∃ x, i = .opFX18 x) ∧
    (t.fb ≠ s.fb → i = .op00E0 ∨ ∃ x y n, i = .opDXYN x y n) ∧
    (t.randomSource ≠ s.randomSource → ∃ x kk, i = .opCXKK x kk) ∧
    t.keypad = s.keypad ∧ t.opcode = s.opcode ∧ t.keypadInput = s.keypadInput ∧
    t.memory.font = s.memory.font

/-- R20, R226: no instruction but EX9E, EXA1 and FX0A depends on the keypad. -/
def Obligations.KeypadIsReadByKeyInstructionsOnly : Prop :=
  ∀ (i : Instr) (s : State) (keys : Keypad), readsKeypad i = false →
    exec i (s.writeKeypad keys) = mapNext (·.writeKeypad keys) (exec i s)

/-- R20, R28, R31: no instruction reads `opcode` or `soundTimer`. -/
def Obligations.OpcodeAndSoundTimerAreNeverRead : Prop :=
  ∀ (i : Instr) (s : State) (w : Word) (b : Byte),
    exec i { s with opcode := w, soundTimer := b } =
      mapNext (fun t => { t with opcode := w, soundTimer := match i with
        | .opFX18 _ => t.soundTimer
        | _ => b }) (exec i s)

/-- R72, R284: when FX55 stores over the word that follows it, the next fetch reads the stored bytes. -/
def Obligations.StoredBytesAreFetchedNext : Prop :=
  ∀ (s t : State) (x : RegNum), s.memory.wf = true → step s = .next t → t.fault = .none →
    decodeWord (wordAt s) = .opFX55 x → s.index.toNat ≤ s.pc.toNat + 2 →
    s.pc.toNat + 3 ≤ s.index.toNat + x.toNat →
    wordAt t = wordOfBytes (s.reg (BitVec.ofNat 4 (s.pc.toNat + 2 - s.index.toNat)))
      (s.reg (BitVec.ofNat 4 (s.pc.toNat + 3 - s.index.toNat)))

/-- R22: every instruction leaves alone each register it does not name as destination and, but for the six
flag writers, VF; a flag is 0 or 1. -/
def Obligations.RegistersAndFlagWrittenOnlyAsNamed : Prop :=
  ∀ (i : Instr) (s t : State), exec i s = .next t →
    (∀ r, mayWrite i r = false → t.reg r = s.reg r) ∧
    (s.fault = .none → t.fault = .none → leavesFlag i = true → t.reg 0xF = 0 ∨ t.reg 0xF = 1)

/-- The canonical form: two canonical memories of one machine that read alike everywhere are equal data. -/
def Obligations.CanonicalMemoriesWithEqualBytesAreEqual : Prop :=
  ∀ m m' : Memory, m.wf = true → m'.wf = true → m.font = m'.font → (∀ a, m.read a = m'.read a) → m = m'

/-! ## Control transfer -/

/-- R129, R100: each of the 282 unassigned rows is a no-op, and the Cycle of such a word fetches, advances and
ticks. -/
def Obligations.UnassignedWordsAreNoOperations : Prop :=
  (∀ (i : Instr) (s : State), i.isUnassigned = true →
    ∃ t, exec i s = .next t ∧ t.pc = s.pc + 2 ∧ PcFrame s t) ∧
  ∀ s : State, s.fault = .none → s.pc.toNat ≤ 4094 → (decodeWord (wordAt s)).isUnassigned = true →
    ∃ t, step s = .next t ∧
      t = { s.presentKeys with
            pc := s.pc + 2, opcode := wordAt s, delayTimer := t.delayTimer, soundTimer := t.soundTimer } ∧
      t.delayTimer.toNat = s.delayTimer.toNat - 1 ∧ t.soundTimer.toNat = s.soundTimer.toNat - 1

/-- R122, 1NNN. -/
def Obligations.JumpLoadsItsTarget : Prop :=
  ∀ (s : State) (nnn : Addr12), ∃ t, exec (.op1NNN nnn) s = .next t ∧ t.pc.toNat = nnn.toNat ∧ PcFrame s t

/-- R123, 2NNN; the fault at sp = 16 is D4. -/
def Obligations.CallPushesTheReturnAddress : Prop :=
  ∀ (s : State) (nnn : Addr12),
    if h : s.sp.val < 16 then
      ∃ t, exec (.op2NNN nnn) s = .next t ∧ t.stack[s.sp.val]'h = s.pc + 2 ∧ t.sp.val = s.sp.val + 1 ∧
        t.pc.toNat = nnn.toNat ∧ (∀ k, (hk : k < 16) → k ≠ s.sp.val → t.stack[k]'hk = s.stack[k]'hk) ∧
        t = { s with stack := t.stack, sp := t.sp, pc := t.pc } ∧ SameRegs s t ∧ SameBytes s t
    else exec (.op2NNN nnn) s = .next { s with fault := .stackOverflow }

/-- R121, 00EE; the fault at sp = 0 is D4. -/
def Obligations.ReturnPopsTheReturnAddress : Prop :=
  ∀ s : State,
    if h : 0 < s.sp.val then
      ∃ t, exec .op00EE s = .next t ∧ t.pc = s.stack[s.sp.val - 1]'(by have := s.sp.isLt; omega) ∧
        t.sp.val = s.sp.val - 1 ∧ t = { s with sp := t.sp, pc := t.pc } ∧ SameRegs s t ∧ SameBytes s t
    else exec .op00EE s = .next { s with fault := .stackUnderflow }

/-- R121, R123 (S6): a call and the return that finds the same stack lead to the instruction after the
call. -/
def Obligations.ReturnUndoesCall : Prop :=
  ∀ (s : State) (nnn : Addr12), s.sp.val < 16 →
    ∃ t, exec (.op2NNN nnn) s = .next t ∧
      ∀ u : State, u.stack = t.stack → u.sp = t.sp →
        ∃ r, exec .op00EE u = .next r ∧ r.pc = s.pc + 2 ∧ r.sp = s.sp

/-- R124, R125: 3XKK and 4XKK. -/
def Obligations.ByteComparisonsSkip : Prop :=
  ∀ (s : State) (x : RegNum) (kk : Byte),
    (∃ t, exec (.op3XKK x kk) s = .next t ∧
      t.pc = (if (s.reg x).toNat = kk.toNat then s.pc + 4 else s.pc + 2) ∧ PcFrame s t) ∧
    ∃ t, exec (.op4XKK x kk) s = .next t ∧
      t.pc = (if (s.reg x).toNat = kk.toNat then s.pc + 2 else s.pc + 4) ∧ PcFrame s t

/-- R126, R127: 5XY0 and 9XY0. -/
def Obligations.RegisterComparisonsSkip : Prop :=
  ∀ (s : State) (x y : RegNum),
    (∃ t, exec (.op5XY0 x y) s = .next t ∧
      t.pc = (if (s.reg x).toNat = (s.reg y).toNat then s.pc + 4 else s.pc + 2) ∧ PcFrame s t) ∧
    ∃ t, exec (.op9XY0 x y) s = .next t ∧
      t.pc = (if (s.reg x).toNat = (s.reg y).toNat then s.pc + 2 else s.pc + 4) ∧ PcFrame s t

/-- R128, BNNN: the sum is kept unreduced, up to 4350. -/
def Obligations.OffsetJumpAddsV0 : Prop :=
  ∀ (s : State) (nnn : Addr12),
    ∃ t, exec (.opBNNN nnn) s = .next t ∧ t.pc.toNat = (s.reg 0).toNat + nnn.toNat ∧ PcFrame s t

/-! ## Registers -/

/-- R151, R152: 6XKK and 7XKK. -/
def Obligations.ByteLoadAndAdd : Prop :=
  ∀ (s : State) (x : RegNum) (kk : Byte),
    (∃ t, exec (.op6XKK x kk) s = .next t ∧ t.reg x = kk ∧ RegFrame s t [x]) ∧
    ∃ t, exec (.op7XKK x kk) s = .next t ∧ (t.reg x).toNat = ((s.reg x).toNat + kk.toNat) % 256 ∧
      RegFrame s t [x]

/-- R153 to R156: 8XY0, 8XY1, 8XY2, 8XY3, bit by bit; no flag. -/
def Obligations.CopyAndLogic : Prop :=
  ∀ (s : State) (x y : RegNum),
    (∃ t, exec (.op8XY0 x y) s = .next t ∧ t.reg x = s.reg y ∧ RegFrame s t [x]) ∧
    (∃ t, exec (.op8XY1 x y) s = .next t ∧
      (∀ b, (t.reg x).getLsbD b = ((s.reg x).getLsbD b || (s.reg y).getLsbD b)) ∧ RegFrame s t [x]) ∧
    (∃ t, exec (.op8XY2 x y) s = .next t ∧
      (∀ b, (t.reg x).getLsbD b = ((s.reg x).getLsbD b && (s.reg y).getLsbD b)) ∧ RegFrame s t [x]) ∧
    ∃ t, exec (.op8XY3 x y) s = .next t ∧
      (∀ b, (t.reg x).getLsbD b = ((s.reg x).getLsbD b ^^ (s.reg y).getLsbD b)) ∧ RegFrame s t [x]

/-- R157, R150: 8XY4. For X = F the result is what remains in VF (D7). -/
def Obligations.AddLeavesSumAndCarry : Prop :=
  ∀ (s : State) (x y : RegNum), ∃ t, exec (.op8XY4 x y) s = .next t ∧
    (t.reg x).toNat = ((s.reg x).toNat + (s.reg y).toNat) % 256 ∧
    (x ≠ 0xF → (t.reg 0xF).toNat = if (s.reg x).toNat + (s.reg y).toNat > 255 then 1 else 0) ∧
    RegFrame s t [x, 0xF]

/-- R158, R160, R150: 8XY5 and 8XY7; the comparison is strict. For X = F the result remains in VF
(D7). -/
def Obligations.SubtractLeavesDifferenceAndFlag : Prop :=
  ∀ (s : State) (x y : RegNum),
    (∃ t, exec (.op8XY5 x y) s = .next t ∧
      (t.reg x).toNat = (256 + (s.reg x).toNat - (s.reg y).toNat) % 256 ∧
      (x ≠ 0xF → (t.reg 0xF).toNat = if (s.reg x).toNat > (s.reg y).toNat then 1 else 0) ∧
      RegFrame s t [x, 0xF]) ∧
    ∃ t, exec (.op8XY7 x y) s = .next t ∧
      (t.reg x).toNat = (256 + (s.reg y).toNat - (s.reg x).toNat) % 256 ∧
      (x ≠ 0xF → (t.reg 0xF).toNat = if (s.reg y).toNat > (s.reg x).toNat then 1 else 0) ∧
      RegFrame s t [x, 0xF]

/-- R159, R161, R150: 8XY6 and 8XYE; V[Y] is neither read nor written. For X = F the result
remains in VF (D7). -/
def Obligations.ShiftLeavesResultAndBitOut : Prop :=
  ∀ (s : State) (x y : RegNum),
    (∃ t, exec (.op8XY6 x y) s = .next t ∧ (t.reg x).toNat = (s.reg x).toNat / 2 ∧
      (x ≠ 0xF → (t.reg 0xF).toNat = (s.reg x).toNat % 2) ∧ RegFrame s t [x, 0xF]) ∧
    ∃ t, exec (.op8XYE x y) s = .next t ∧ (t.reg x).toNat = (s.reg x).toNat * 2 % 256 ∧
      (x ≠ 0xF → (t.reg 0xF).toNat = (s.reg x).toNat / 128) ∧ RegFrame s t [x, 0xF]

/-- R162, R32: CXKK consumes exactly one draw, a free value, and masks it. That the draw is
`Config.randomByte` of a counter in State and that consuming it adds one to the counter is the model's DESIGN
CHOICE of log entry 2; in it two states at one count draw the same byte, which no rule of the spec says. -/
def Obligations.RandomByteIsMasked : Prop :=
  ∀ (s : State) (x : RegNum) (kk : Byte), ∃ t, exec (.opCXKK x kk) s = .next t ∧
    (∀ b, (t.reg x).getLsbD b = ((Config.randomByte s.randomSource).getLsbD b && kk.getLsbD b)) ∧
    t.randomSource = s.randomSource + 1 ∧ t.pc = s.pc + 2 ∧ (∀ r, r ≠ x → t.reg r = s.reg r) ∧
    t = { s with v := t.v, pc := t.pc, randomSource := t.randomSource } ∧ SameBytes s t

/-! ## Index and memory -/

/-- R180, R181: ANNN and FX1E; no flag, no fault above 4095. -/
def Obligations.IndexLoadAndAdd : Prop :=
  ∀ (s : State) (nnn : Addr12) (x : RegNum),
    (∃ t, exec (.opANNN nnn) s = .next t ∧ t.index.toNat = nnn.toNat ∧ IndexFrame s t) ∧
    ∃ t, exec (.opFX1E x) s = .next t ∧ t.index.toNat = (s.index.toNat + (s.reg x).toNat) % 65536 ∧
      IndexFrame s t

/-- R182: FX29, for every font parameters R6 allows; the whole byte V[X] is multiplied. -/
def Obligations.GlyphAddressIsComputed : Prop :=
  ∀ (s : State) (x : RegNum), s.memory.font.wellFormed = true →
    ∃ t, exec (.opFX29 x) s = .next t ∧ t.index.toNat = s.memory.font.base + 5 * (s.reg x).toNat ∧
      IndexFrame s t

/-- R183: FX33; the fault is D3, tested before any byte is written (D1). -/
def Obligations.DecimalDigitsAreStored : Prop :=
  ∀ (s : State) (x : RegNum), s.memory.wf = true →
    if s.index.toNat + 2 > 4095 then exec (.opFX33 x) s = .next { s with fault := .memWriteOob }
    else ∃ t, exec (.opFX33 x) s = .next t ∧
      t.memory.read s.index.toNat = some (BitVec.ofNat 8 ((s.reg x).toNat / 100)) ∧
      t.memory.read (s.index.toNat + 1) = some (BitVec.ofNat 8 ((s.reg x).toNat / 10 % 10)) ∧
      t.memory.read (s.index.toNat + 2) = some (BitVec.ofNat 8 ((s.reg x).toNat % 10)) ∧
      StoreFrame s t s.index.toNat 3

/-- R184: FX55; `index` is not changed; the fault is D3. -/
def Obligations.RegistersAreStored : Prop :=
  ∀ (s : State) (x : RegNum), s.memory.wf = true →
    if s.index.toNat + x.toNat > 4095 then exec (.opFX55 x) s = .next { s with fault := .memWriteOob }
    else ∃ t, exec (.opFX55 x) s = .next t ∧
      (∀ r : RegNum, r.toNat ≤ x.toNat → t.memory.read (s.index.toNat + r.toNat) = some (s.reg r)) ∧
      StoreFrame s t s.index.toNat (x.toNat + 1)

/-- R185: FX65; registers above X and `index` are not changed; the fault is D3. -/
def Obligations.RegistersAreLoaded : Prop :=
  ∀ (s : State) (x : RegNum),
    if s.index.toNat + x.toNat > 4095 then exec (.opFX65 x) s = .next { s with fault := .memReadOob }
    else ∃ t, exec (.opFX65 x) s = .next t ∧
      (∀ r : RegNum, r.toNat ≤ x.toNat → s.memory.read (s.index.toNat + r.toNat) = some (t.reg r)) ∧
      (∀ r : RegNum, r.toNat > x.toNat → t.reg r = s.reg r) ∧
      t.pc = s.pc + 2 ∧ t = { s with v := t.v, pc := t.pc } ∧ SameBytes s t

/-- R184, R185: what FX55 stored, FX65 with the same X and `index` loads back. -/
def Obligations.LoadUndoesStore : Prop :=
  ∀ (s : State) (x : RegNum), s.memory.wf = true → s.index.toNat + x.toNat ≤ 4095 →
    ∃ t, exec (.opFX55 x) s = .next t ∧
      ∀ u : State, u.memory = t.memory → u.index = t.index →
        ∃ r, exec (.opFX65 x) u = .next r ∧ ∀ q : RegNum, q.toNat ≤ x.toNat → r.reg q = s.reg q

/-! ## Display -/

/-- R201: 00E0; VF is not written. -/
def Obligations.ClearScreenDarkensEveryPixel : Prop :=
  ∀ s : State, ∃ t, exec .op00E0 s = .next t ∧
    (∀ y x, (hy : y < 32) → (hx : x < 64) → (t.fb[y]'hy)[x]'hx = false) ∧ t.pc = s.pc + 2 ∧
    t = { s with fb := t.fb, pc := t.pc } ∧ SameRegs s t ∧ SameBytes s t

/-- R202, R206, R244: DXYN, with its two faults in their order; every pixel, VF and the frame. That VF is
written with 0 where nothing collides is D8, that bit 7 is leftmost D9 (log entry 15), the faults D3, D5, D26. -/
def Obligations.DrawSpriteXorsThePixels : Prop :=
  ∀ (s : State) (x y : RegNum) (n : Nibble),
    let x0 := (s.reg x).toNat % 64
    let y0 := (s.reg y).toNat % 64
    if n.toNat > 0 ∧ s.index.toNat + n.toNat - 1 > 4095 then
      exec (.opDXYN x y n) s = .next { s with fault := .memReadOob }
    else if n.toNat > 0 ∧ (x0 + 7 > 63 ∨ y0 + n.toNat - 1 > 31) then
      exec (.opDXYN x y n) s = .next { s with fault := .drawOob }
    else ∃ t, exec (.opDXYN x y n) s = .next t ∧
      (∀ row col, row < n.toNat → col < 8 →
        t.fb.pixel (y0 + row) (x0 + col) = (s.fb.pixel (y0 + row) (x0 + col) ^^ sprite s row col)) ∧
      (∀ py px, ¬ (y0 ≤ py ∧ py < y0 + n.toNat ∧ x0 ≤ px ∧ px < x0 + 8) →
        t.fb.pixel py px = s.fb.pixel py px) ∧
      ((∃ row col, row < n.toNat ∧ col < 8 ∧ s.fb.pixel (y0 + row) (x0 + col) = true ∧
        sprite s row col = true) → t.reg 0xF = 1) ∧
      ((¬ ∃ row col, row < n.toNat ∧ col < 8 ∧ s.fb.pixel (y0 + row) (x0 + col) = true ∧
        sprite s row col = true) → t.reg 0xF = 0) ∧
      t.pc = s.pc + 2 ∧ (∀ r, r ≠ 0xF → t.reg r = s.reg r) ∧
      t = { s with fb := t.fb, v := t.v, pc := t.pc } ∧ SameBytes s t

/-- R206 (S7): two identical draws in succession restore the framebuffer, and the second reports a collision
exactly when some 1 bit of the sprite fell on a pixel that was off before the first (log entry 12). -/
def Obligations.DrawTwiceRestoresTheScreen : Prop :=
  ∀ (s t : State) (x y : RegNum) (n : Nibble), s.fault = .none → x ≠ 0xF → y ≠ 0xF →
    exec (.opDXYN x y n) s = .next t → t.fault = .none →
    ∃ u, exec (.opDXYN x y n) t = .next u ∧ u.fault = .none ∧ u.fb = s.fb ∧
      (u.reg 0xF = 1 ↔ ∃ row col, row < n.toNat ∧ col < 8 ∧ sprite s row col = true ∧
        s.fb.pixel ((s.reg y).toNat % 64 + row) ((s.reg x).toNat % 64 + col) = false)

/-- R203: a draw of at least one row that does not fault gives the same first row under modulus 64 and
modulus 32. -/
def Obligations.RowModulusIsHarmless : Prop :=
  ∀ (s t : State) (x y : RegNum) (n : Nibble), s.fault = .none → exec (.opDXYN x y n) s = .next t →
    t.fault = .none → n ≠ 0 → (s.reg y).toNat % 64 = (s.reg y).toNat % 32

/-! ## Keypad and timers -/

/-- R220, R221: EX9E and EXA1; the fault above 15 is D6. -/
def Obligations.KeyTestsSkip : Prop :=
  ∀ (s : State) (x : RegNum),
    if (s.reg x).toNat > 15 then
      exec (.opEX9E x) s = .next { s with fault := .keyOob } ∧
      exec (.opEXA1 x) s = .next { s with fault := .keyOob }
    else
      (∃ t, exec (.opEX9E x) s = .next t ∧
        t.pc = (if key s (s.reg x).toNat = true then s.pc + 4 else s.pc + 2) ∧ PcFrame s t) ∧
      ∃ t, exec (.opEXA1 x) s = .next t ∧
        t.pc = (if key s (s.reg x).toNat = true then s.pc + 2 else s.pc + 4) ∧ PcFrame s t

/-- R222: FX0A takes the least pressed key, or stays where it is. -/
def Obligations.KeyWaitTakesTheLeastKey : Prop :=
  ∀ (s : State) (x : RegNum),
    ((∀ k, key s k = false) → exec (.opFX0A x) s = .next s) ∧
    ∀ k, key s k = true → (∀ j, j < k → key s j = false) →
      ∃ t, exec (.opFX0A x) s = .next t ∧ (t.reg x).toNat = k ∧ RegFrame s t [x]

/-- R223, R224, R225: FX07, FX15 and FX18, before the Cycle's tick. Which way each copies is D11, from general
knowledge (log entry 15). -/
def Obligations.TimerTransfers : Prop :=
  ∀ (s : State) (x : RegNum),
    (∃ t, exec (.opFX07 x) s = .next t ∧ t.reg x = s.delayTimer ∧ RegFrame s t [x]) ∧
    (∃ t, exec (.opFX15 x) s = .next t ∧ t.delayTimer = s.reg x ∧ t.pc = s.pc + 2 ∧
      t = { s with delayTimer := t.delayTimer, pc := t.pc } ∧ SameRegs s t ∧ SameBytes s t) ∧
    ∃ t, exec (.opFX18 x) s = .next t ∧ t.soundTimer = s.reg x ∧ t.pc = s.pc + 2 ∧
      t = { s with soundTimer := t.soundTimer, pc := t.pc } ∧ SameRegs s t ∧ SameBytes s t
end

