-- ==== Sys2Proof/Laws/Memory.lean ====
section
/-! SUPPORT. The laws of memory: a read after a write, what a write leaves alone, and that every operation
keeps the canonical form. -/

namespace Sys2Proof.Machine

/-! ### Cells -/

theorem cellsWf_cons {d : Nat → Byte} {lo : Option Nat} {a : Nat} {v : Byte} {cs : List Host.Cell} :
    cellsWf d lo ((a, v) :: cs) = true ↔
      (∀ l, lo = some l → l < a) ∧ a < Config.memSize ∧ v ≠ d a ∧ cellsWf d (some a) cs = true := by
  cases lo <;> simp [cellsWf, and_assoc]

/-- A weaker lower bound is met too. -/
theorem cellsWf_mono {d : Nat → Byte} {l l' : Nat} {cs : List Host.Cell} (hl : l' ≤ l)
    (h : cellsWf d (some l) cs = true) : cellsWf d (some l') cs = true := by
  cases cs with
  | nil => rfl
  | cons c cs =>
    obtain ⟨hlo, hr⟩ := cellsWf_cons.1 h
    refine cellsWf_cons.2 ⟨?_, hr⟩
    intro x hx
    have := hlo l rfl
    cases hx
    omega

/-- Canonical cells list nothing at or below their lower bound. -/
theorem lookupCell_of_le {d : Nat → Byte} {l a : Nat} {cs : List Host.Cell}
    (h : cellsWf d (some l) cs = true) (ha : a ≤ l) : lookupCell a cs = none := by
  induction cs generalizing l with
  | nil => rfl
  | cons c cs ih =>
    obtain ⟨hlo, _, _, ht⟩ := cellsWf_cons.1 h
    have := hlo l rfl
    have hne : a ≠ c.1 := by omega
    simp only [lookupCell, hne, if_false]
    exact ih ht (by omega)

/-- A listed cell of a canonical list differs from the unlisted value and lies in the space. -/
theorem lookupCell_some {d : Nat → Byte} {lo : Option Nat} {a : Nat} {v : Byte} {cs : List Host.Cell}
    (h : cellsWf d lo cs = true) (hv : lookupCell a cs = some v) : v ≠ d a ∧ a < Config.memSize := by
  induction cs generalizing lo with
  | nil => simp [lookupCell] at hv
  | cons c cs ih =>
    obtain ⟨_, hm, hd, ht⟩ := cellsWf_cons.1 h
    by_cases e : a = c.1
    · subst e
      simp only [lookupCell, if_true, Option.some.injEq] at hv
      exact hv ▸ ⟨hd, hm⟩
    · simp only [lookupCell, e, if_false] at hv
      exact ih ht hv

/-- A write leaves every other address as it was; no canonical form is needed. -/
theorem lookupCell_putCell_ne {a b : Nat} (v d : Byte) (cs : List Host.Cell) (h : b ≠ a) :
    lookupCell b (putCell a v d cs) = lookupCell b cs := by
  induction cs with
  | nil => by_cases hv : v = d <;> simp [putCell, lookupCell, hv, h]
  | cons c cs ih =>
    obtain ⟨e, w⟩ := c
    by_cases h1 : a < e
    · by_cases hv : v = d <;> simp [putCell, lookupCell, h1, hv, h]
    · by_cases h2 : a = e
      · subst h2
        by_cases hv : v = d <;> simp [putCell, lookupCell, hv, h]
      · simp only [putCell, h1, h2, if_false, lookupCell, ih]

/-- A write is read back. -/
theorem lookupCell_putCell_same {d : Nat → Byte} {lo : Option Nat} (a : Nat) (v : Byte) {cs : List Host.Cell}
    (h : cellsWf d lo cs = true) : (lookupCell a (putCell a v (d a) cs)).getD (d a) = v := by
  induction cs generalizing lo with
  | nil => by_cases hv : v = d a <;> simp [putCell, lookupCell, hv]
  | cons c cs ih =>
    obtain ⟨e, w⟩ := c
    obtain ⟨_, _, _, ht⟩ := cellsWf_cons.1 h
    by_cases h1 : a < e
    · have hn : lookupCell a cs = none := lookupCell_of_le ht (by omega)
      by_cases hv : v = d a <;> simp [putCell, lookupCell, h1, hv, hn, Nat.ne_of_lt h1]
    · by_cases h2 : a = e
      · subst h2
        have hn : lookupCell a cs = none := lookupCell_of_le ht (Nat.le_refl _)
        by_cases hv : v = d a <;> simp [putCell, lookupCell, hv, hn]
      · have := ih ht
        simpa [putCell, lookupCell, h1, h2] using this

/-- A write at an address of the space keeps the canonical form. -/
theorem cellsWf_putCell {d : Nat → Byte} {lo : Option Nat} {a : Nat} (v : Byte) {cs : List Host.Cell}
    (h : cellsWf d lo cs = true) (ha : a < Config.memSize) (hlo : ∀ l, lo = some l → l < a) :
    cellsWf d lo (putCell a v (d a) cs) = true := by
  induction cs generalizing lo with
  | nil =>
    by_cases hv : v = d a
    · simp [putCell, hv, cellsWf]
    · simp only [putCell, hv, if_false]
      exact cellsWf_cons.2 ⟨hlo, ha, hv, rfl⟩
  | cons c cs ih =>
    obtain ⟨e, w⟩ := c
    obtain ⟨h1, h2, h3, ht⟩ := cellsWf_cons.1 h
    by_cases hae : a < e
    · by_cases hv : v = d a
      · simpa [putCell, hae, hv] using h
      · simp only [putCell, hae, hv, if_true, if_false]
        refine cellsWf_cons.2 ⟨hlo, ha, hv, cellsWf_cons.2 ⟨?_, h2, h3, ht⟩⟩
        intro l hl
        cases hl
        exact hae
    · by_cases he : a = e
      · subst he
        by_cases hv : v = d a
        · simp only [putCell, hae, hv, if_true, if_false]
          cases lo with
          | none =>
            cases cs with
            | nil => rfl
            | cons c' cs' => exact cellsWf_cons.2 ⟨by simp, (cellsWf_cons.1 ht).2⟩
          | some l => exact cellsWf_mono (Nat.le_of_lt (hlo l rfl)) ht
        · simp only [putCell, hae, hv, if_true, if_false]
          exact cellsWf_cons.2 ⟨hlo, ha, hv, ht⟩
      · simp only [putCell, hae, he, if_false]
        refine cellsWf_cons.2 ⟨h1, h2, h3, ih ht ?_⟩
        intro l hl
        cases hl
        omega

/-! ### One byte -/

@[simp] theorem Memory.put_font (m : Memory) (a : Nat) (v : Byte) : (m.put a v).font = m.font := rfl

@[simp] theorem Memory.put_unlisted (m : Memory) (a b : Nat) (v : Byte) :
    (m.put a v).unlisted b = m.unlisted b := rfl

theorem Memory.byte_put_ne (m : Memory) {a b : Nat} (v : Byte) (h : b ≠ a) : (m.put a v).byte b = m.byte b := by
  simp only [Memory.byte, Memory.put_unlisted]
  simp only [Memory.put, lookupCell_putCell_ne v _ m.cells h]

theorem Memory.byte_put_same {m : Memory} (h : m.wf = true) (a : Nat) (v : Byte) : (m.put a v).byte a = v :=
  lookupCell_putCell_same a v h

theorem Memory.wf_put {m : Memory} (h : m.wf = true) {a : Nat} (v : Byte) (ha : a < Config.memSize) :
    (m.put a v).wf = true :=
  cellsWf_putCell v h ha (by simp)

/-! ### A run of bytes -/

@[simp] theorem Memory.putBytes_font (bs : List Byte) (m : Memory) (a : Nat) :
    (m.putBytes a bs).font = m.font := by
  induction bs generalizing m a with
  | nil => rfl
  | cons b bs ih => exact ih _ _

/-- A store leaves every byte outside its range as it was. -/
theorem Memory.byte_putBytes_outside (bs : List Byte) (m : Memory) {a b : Nat}
    (h : b < a ∨ a + bs.length ≤ b) : (m.putBytes a bs).byte b = m.byte b := by
  induction bs generalizing m a with
  | nil => rfl
  | cons v bs ih =>
    rw [Memory.putBytes, ih _ (by simp at h; omega), Memory.byte_put_ne]
    simp at h
    omega

theorem Memory.wf_putBytes {bs : List Byte} {m : Memory} (h : m.wf = true) {a : Nat}
    (ha : a + bs.length ≤ Config.memSize) : (m.putBytes a bs).wf = true := by
  induction bs generalizing m a with
  | nil => exact h
  | cons v bs ih =>
    simp only [List.length_cons] at ha
    exact ih (Memory.wf_put h v (by omega)) (by omega)

/-- A store is read back, byte by byte. -/
theorem Memory.byte_putBytes_inside {bs : List Byte} {m : Memory} (h : m.wf = true) {a : Nat}
    (ha : a + bs.length ≤ Config.memSize) {i : Nat} (hi : i < bs.length) :
    (m.putBytes a bs).byte (a + i) = bs[i] := by
  induction bs generalizing m a i with
  | nil => simp at hi
  | cons v bs ih =>
    simp only [List.length_cons] at ha hi
    have hw : (m.put a v).wf = true := Memory.wf_put h v (by omega)
    cases i with
    | zero =>
      rw [Memory.putBytes, Memory.byte_putBytes_outside _ _ (by omega)]
      exact Memory.byte_put_same h a v
    | succ i =>
      have := ih hw (a := a + 1) (i := i) (by omega) (by omega)
      rw [Memory.putBytes, ← Nat.add_assoc, Nat.add_right_comm, this]
      rfl

@[simp] theorem Memory.length_bytes (n : Nat) (m : Memory) (a : Nat) : (m.bytes a n).length = n := by
  induction n generalizing a with
  | zero => rfl
  | succ n ih => simp [Memory.bytes, ih]

/-- The bytes a load gives. -/
theorem Memory.getElem_bytes (n : Nat) (m : Memory) (a : Nat) {i : Nat} (hi : i < (m.bytes a n).length) :
    (m.bytes a n)[i] = m.byte (a + i) := by
  induction n generalizing a i with
  | zero => simp [Memory.bytes] at hi
  | succ n ih =>
    cases i with
    | zero => rfl
    | succ i =>
      simp only [Memory.bytes, List.getElem_cons_succ]
      rw [ih, ← Nat.add_assoc, Nat.add_right_comm]

/-! ### The checked accesses: all each can answer -/

theorem accessInRange_iff (a n : Nat) : accessInRange a n = true ↔ n = 0 ∨ a + n ≤ Config.memSize := by
  simp [accessInRange]

theorem Memory.load_cases (m : Memory) (a n : Nat) :
    (accessInRange a n = true ∧ m.load a n = .ok (m.bytes a n)) ∨
      (accessInRange a n = false ∧ m.load a n = .error .memReadOob) := by
  unfold Memory.load
  cases accessInRange a n <;> simp

theorem Memory.store_cases (m : Memory) (a : Nat) (bs : List Byte) :
    (accessInRange a bs.length = true ∧ m.store a bs = .ok (m.putBytes a bs)) ∨
      (accessInRange a bs.length = false ∧ m.store a bs = .error .memWriteOob) := by
  unfold Memory.store
  cases accessInRange a bs.length <;> simp

theorem Memory.fetch_cases (m : Memory) (a : Nat) :
    (a ≤ 4094 ∧ m.fetch a = .ok (wordOfBytes (m.byte a) (m.byte (a + 1)))) ∨
      (4094 < a ∧ m.fetch a = .error .fetchOob) := by
  unfold Memory.fetch Config.memSize
  by_cases h : a + 1 < 4096
  · exact .inl ⟨by omega, by simp [h]⟩
  · exact .inr ⟨by omega, by simp [h]⟩

/-- A store that is performed keeps the canonical form and the font. -/
theorem Memory.wf_store {m m' : Memory} {a : Nat} {bs : List Byte} (h : m.wf = true)
    (hs : m.store a bs = .ok m') : m'.wf = true ∧ m'.font = m.font := by
  rcases m.store_cases a bs with ⟨hr, he⟩ | ⟨_, he⟩ <;> rw [he] at hs
  · cases hs
    refine ⟨?_, Memory.putBytes_font _ _ _⟩
    rcases (accessInRange_iff _ _).1 hr with h0 | h0
    · rw [List.length_eq_zero_iff.1 h0]
      exact h
    · exact Memory.wf_putBytes h h0
  · cases hs

/-- Memory at Reset lists nothing and is canonical. -/
theorem State.reset_memory_wf : State.reset.memory.wf = true := rfl

/-- A placed word keeps the canonical form. -/
theorem State.placeWord_memory_wf {s : State} (w : Word) (h : s.memory.wf = true) :
    (s.placeWord w).memory.wf = true := by
  unfold State.placeWord
  split
  · exact (Memory.wf_store h ‹_›).1
  · exact h

/-- Load keeps the canonical form. -/
theorem State.load_memory_wf {s t : State} {bytes : List Byte} (h : s.memory.wf = true)
    (hl : s.load bytes = some t) : t.memory.wf = true := by
  unfold State.load romWellFormed at hl
  split at hl
  · cases hl
    refine Memory.wf_putBytes h ?_
    simp only [decide_eq_true_eq] at *
    unfold Config.programBase Config.memSize
    unfold Config.maxRom at *
    omega
  · cases hl

/-- `Memory.read` of an address of the space. -/
theorem Memory.read_of_lt (m : Memory) {a : Nat} (h : a < Config.memSize) : m.read a = some (m.byte a) := by
  simp [Memory.read, h]

/-- Two memories whose bytes agree at `a` read alike there. -/
theorem Memory.read_congr {m m' : Memory} {a : Nat} (h : m'.byte a = m.byte a) : m'.read a = m.read a := by
  simp [Memory.read, h]

end Sys2Proof.Machine
end

