-- ==== Sys2Proof/Laws/State.lean ====
section
/-! SUPPORT. One lemma per field of State and per update: what the update leaves in the field. -/

namespace Sys2Proof.Machine

variable (s : State)

/-! ### raiseFault -/

@[simp] theorem State.raiseFault_memory (k : FaultKind) : (s.raiseFault k).memory = s.memory := rfl
@[simp] theorem State.raiseFault_v (k : FaultKind) : (s.raiseFault k).v = s.v := rfl
@[simp] theorem State.raiseFault_index (k : FaultKind) : (s.raiseFault k).index = s.index := rfl
@[simp] theorem State.raiseFault_pc (k : FaultKind) : (s.raiseFault k).pc = s.pc := rfl
@[simp] theorem State.raiseFault_stack (k : FaultKind) : (s.raiseFault k).stack = s.stack := rfl
@[simp] theorem State.raiseFault_sp (k : FaultKind) : (s.raiseFault k).sp = s.sp := rfl
@[simp] theorem State.raiseFault_delayTimer (k : FaultKind) : (s.raiseFault k).delayTimer = s.delayTimer := rfl
@[simp] theorem State.raiseFault_soundTimer (k : FaultKind) : (s.raiseFault k).soundTimer = s.soundTimer := rfl
@[simp] theorem State.raiseFault_fb (k : FaultKind) : (s.raiseFault k).fb = s.fb := rfl
@[simp] theorem State.raiseFault_keypad (k : FaultKind) : (s.raiseFault k).keypad = s.keypad := rfl
@[simp] theorem State.raiseFault_opcode (k : FaultKind) : (s.raiseFault k).opcode = s.opcode := rfl
@[simp] theorem State.raiseFault_randomSource (k : FaultKind) : (s.raiseFault k).randomSource = s.randomSource := rfl
@[simp] theorem State.raiseFault_fault (k : FaultKind) : (s.raiseFault k).fault = k := rfl
@[simp] theorem State.raiseFault_keypadInput (k : FaultKind) : (s.raiseFault k).keypadInput = s.keypadInput := rfl

/-! ### setReg -/

@[simp] theorem State.setReg_memory (x : RegNum) (b : Byte) : (s.setReg x b).memory = s.memory := rfl
@[simp] theorem State.setReg_v (x : RegNum) (b : Byte) : (s.setReg x b).v = s.v.set x.toNat b x.isLt := rfl
@[simp] theorem State.setReg_index (x : RegNum) (b : Byte) : (s.setReg x b).index = s.index := rfl
@[simp] theorem State.setReg_pc (x : RegNum) (b : Byte) : (s.setReg x b).pc = s.pc := rfl
@[simp] theorem State.setReg_stack (x : RegNum) (b : Byte) : (s.setReg x b).stack = s.stack := rfl
@[simp] theorem State.setReg_sp (x : RegNum) (b : Byte) : (s.setReg x b).sp = s.sp := rfl
@[simp] theorem State.setReg_delayTimer (x : RegNum) (b : Byte) : (s.setReg x b).delayTimer = s.delayTimer := rfl
@[simp] theorem State.setReg_soundTimer (x : RegNum) (b : Byte) : (s.setReg x b).soundTimer = s.soundTimer := rfl
@[simp] theorem State.setReg_fb (x : RegNum) (b : Byte) : (s.setReg x b).fb = s.fb := rfl
@[simp] theorem State.setReg_keypad (x : RegNum) (b : Byte) : (s.setReg x b).keypad = s.keypad := rfl
@[simp] theorem State.setReg_opcode (x : RegNum) (b : Byte) : (s.setReg x b).opcode = s.opcode := rfl
@[simp] theorem State.setReg_randomSource (x : RegNum) (b : Byte) : (s.setReg x b).randomSource = s.randomSource := rfl
@[simp] theorem State.setReg_fault (x : RegNum) (b : Byte) : (s.setReg x b).fault = s.fault := rfl
@[simp] theorem State.setReg_keypadInput (x : RegNum) (b : Byte) : (s.setReg x b).keypadInput = s.keypadInput := rfl

/-! ### setIndex -/

@[simp] theorem State.setIndex_memory (w : Word) : (s.setIndex w).memory = s.memory := rfl
@[simp] theorem State.setIndex_v (w : Word) : (s.setIndex w).v = s.v := rfl
@[simp] theorem State.setIndex_index (w : Word) : (s.setIndex w).index = w := rfl
@[simp] theorem State.setIndex_pc (w : Word) : (s.setIndex w).pc = s.pc := rfl
@[simp] theorem State.setIndex_stack (w : Word) : (s.setIndex w).stack = s.stack := rfl
@[simp] theorem State.setIndex_sp (w : Word) : (s.setIndex w).sp = s.sp := rfl
@[simp] theorem State.setIndex_delayTimer (w : Word) : (s.setIndex w).delayTimer = s.delayTimer := rfl
@[simp] theorem State.setIndex_soundTimer (w : Word) : (s.setIndex w).soundTimer = s.soundTimer := rfl
@[simp] theorem State.setIndex_fb (w : Word) : (s.setIndex w).fb = s.fb := rfl
@[simp] theorem State.setIndex_keypad (w : Word) : (s.setIndex w).keypad = s.keypad := rfl
@[simp] theorem State.setIndex_opcode (w : Word) : (s.setIndex w).opcode = s.opcode := rfl
@[simp] theorem State.setIndex_randomSource (w : Word) : (s.setIndex w).randomSource = s.randomSource := rfl
@[simp] theorem State.setIndex_fault (w : Word) : (s.setIndex w).fault = s.fault := rfl
@[simp] theorem State.setIndex_keypadInput (w : Word) : (s.setIndex w).keypadInput = s.keypadInput := rfl

/-! ### setPc -/

@[simp] theorem State.setPc_memory (w : Word) : (s.setPc w).memory = s.memory := rfl
@[simp] theorem State.setPc_v (w : Word) : (s.setPc w).v = s.v := rfl
@[simp] theorem State.setPc_index (w : Word) : (s.setPc w).index = s.index := rfl
@[simp] theorem State.setPc_pc (w : Word) : (s.setPc w).pc = w := rfl
@[simp] theorem State.setPc_stack (w : Word) : (s.setPc w).stack = s.stack := rfl
@[simp] theorem State.setPc_sp (w : Word) : (s.setPc w).sp = s.sp := rfl
@[simp] theorem State.setPc_delayTimer (w : Word) : (s.setPc w).delayTimer = s.delayTimer := rfl
@[simp] theorem State.setPc_soundTimer (w : Word) : (s.setPc w).soundTimer = s.soundTimer := rfl
@[simp] theorem State.setPc_fb (w : Word) : (s.setPc w).fb = s.fb := rfl
@[simp] theorem State.setPc_keypad (w : Word) : (s.setPc w).keypad = s.keypad := rfl
@[simp] theorem State.setPc_opcode (w : Word) : (s.setPc w).opcode = s.opcode := rfl
@[simp] theorem State.setPc_randomSource (w : Word) : (s.setPc w).randomSource = s.randomSource := rfl
@[simp] theorem State.setPc_fault (w : Word) : (s.setPc w).fault = s.fault := rfl
@[simp] theorem State.setPc_keypadInput (w : Word) : (s.setPc w).keypadInput = s.keypadInput := rfl

/-! ### advance -/

@[simp] theorem State.advance_memory : (s.advance).memory = s.memory := rfl
@[simp] theorem State.advance_v : (s.advance).v = s.v := rfl
@[simp] theorem State.advance_index : (s.advance).index = s.index := rfl
@[simp] theorem State.advance_pc : (s.advance).pc = s.pc + 2 := rfl
@[simp] theorem State.advance_stack : (s.advance).stack = s.stack := rfl
@[simp] theorem State.advance_sp : (s.advance).sp = s.sp := rfl
@[simp] theorem State.advance_delayTimer : (s.advance).delayTimer = s.delayTimer := rfl
@[simp] theorem State.advance_soundTimer : (s.advance).soundTimer = s.soundTimer := rfl
@[simp] theorem State.advance_fb : (s.advance).fb = s.fb := rfl
@[simp] theorem State.advance_keypad : (s.advance).keypad = s.keypad := rfl
@[simp] theorem State.advance_opcode : (s.advance).opcode = s.opcode := rfl
@[simp] theorem State.advance_randomSource : (s.advance).randomSource = s.randomSource := rfl
@[simp] theorem State.advance_fault : (s.advance).fault = s.fault := rfl
@[simp] theorem State.advance_keypadInput : (s.advance).keypadInput = s.keypadInput := rfl

/-! ### setDelayTimer -/

@[simp] theorem State.setDelayTimer_memory (b : Byte) : (s.setDelayTimer b).memory = s.memory := rfl
@[simp] theorem State.setDelayTimer_v (b : Byte) : (s.setDelayTimer b).v = s.v := rfl
@[simp] theorem State.setDelayTimer_index (b : Byte) : (s.setDelayTimer b).index = s.index := rfl
@[simp] theorem State.setDelayTimer_pc (b : Byte) : (s.setDelayTimer b).pc = s.pc := rfl
@[simp] theorem State.setDelayTimer_stack (b : Byte) : (s.setDelayTimer b).stack = s.stack := rfl
@[simp] theorem State.setDelayTimer_sp (b : Byte) : (s.setDelayTimer b).sp = s.sp := rfl
@[simp] theorem State.setDelayTimer_delayTimer (b : Byte) : (s.setDelayTimer b).delayTimer = b := rfl
@[simp] theorem State.setDelayTimer_soundTimer (b : Byte) : (s.setDelayTimer b).soundTimer = s.soundTimer := rfl
@[simp] theorem State.setDelayTimer_fb (b : Byte) : (s.setDelayTimer b).fb = s.fb := rfl
@[simp] theorem State.setDelayTimer_keypad (b : Byte) : (s.setDelayTimer b).keypad = s.keypad := rfl
@[simp] theorem State.setDelayTimer_opcode (b : Byte) : (s.setDelayTimer b).opcode = s.opcode := rfl
@[simp] theorem State.setDelayTimer_randomSource (b : Byte) : (s.setDelayTimer b).randomSource = s.randomSource := rfl
@[simp] theorem State.setDelayTimer_fault (b : Byte) : (s.setDelayTimer b).fault = s.fault := rfl
@[simp] theorem State.setDelayTimer_keypadInput (b : Byte) : (s.setDelayTimer b).keypadInput = s.keypadInput := rfl

/-! ### setSoundTimer -/

@[simp] theorem State.setSoundTimer_memory (b : Byte) : (s.setSoundTimer b).memory = s.memory := rfl
@[simp] theorem State.setSoundTimer_v (b : Byte) : (s.setSoundTimer b).v = s.v := rfl
@[simp] theorem State.setSoundTimer_index (b : Byte) : (s.setSoundTimer b).index = s.index := rfl
@[simp] theorem State.setSoundTimer_pc (b : Byte) : (s.setSoundTimer b).pc = s.pc := rfl
@[simp] theorem State.setSoundTimer_stack (b : Byte) : (s.setSoundTimer b).stack = s.stack := rfl
@[simp] theorem State.setSoundTimer_sp (b : Byte) : (s.setSoundTimer b).sp = s.sp := rfl
@[simp] theorem State.setSoundTimer_delayTimer (b : Byte) : (s.setSoundTimer b).delayTimer = s.delayTimer := rfl
@[simp] theorem State.setSoundTimer_soundTimer (b : Byte) : (s.setSoundTimer b).soundTimer = b := rfl
@[simp] theorem State.setSoundTimer_fb (b : Byte) : (s.setSoundTimer b).fb = s.fb := rfl
@[simp] theorem State.setSoundTimer_keypad (b : Byte) : (s.setSoundTimer b).keypad = s.keypad := rfl
@[simp] theorem State.setSoundTimer_opcode (b : Byte) : (s.setSoundTimer b).opcode = s.opcode := rfl
@[simp] theorem State.setSoundTimer_randomSource (b : Byte) : (s.setSoundTimer b).randomSource = s.randomSource := rfl
@[simp] theorem State.setSoundTimer_fault (b : Byte) : (s.setSoundTimer b).fault = s.fault := rfl
@[simp] theorem State.setSoundTimer_keypadInput (b : Byte) : (s.setSoundTimer b).keypadInput = s.keypadInput := rfl

/-! ### tick -/

@[simp] theorem State.tick_memory : (s.tick).memory = s.memory := rfl
@[simp] theorem State.tick_v : (s.tick).v = s.v := rfl
@[simp] theorem State.tick_index : (s.tick).index = s.index := rfl
@[simp] theorem State.tick_pc : (s.tick).pc = s.pc := rfl
@[simp] theorem State.tick_stack : (s.tick).stack = s.stack := rfl
@[simp] theorem State.tick_sp : (s.tick).sp = s.sp := rfl
@[simp] theorem State.tick_delayTimer : (s.tick).delayTimer = tickTimer s.delayTimer := rfl
@[simp] theorem State.tick_soundTimer : (s.tick).soundTimer = tickTimer s.soundTimer := rfl
@[simp] theorem State.tick_fb : (s.tick).fb = s.fb := rfl
@[simp] theorem State.tick_keypad : (s.tick).keypad = s.keypad := rfl
@[simp] theorem State.tick_opcode : (s.tick).opcode = s.opcode := rfl
@[simp] theorem State.tick_randomSource : (s.tick).randomSource = s.randomSource := rfl
@[simp] theorem State.tick_fault : (s.tick).fault = s.fault := rfl
@[simp] theorem State.tick_keypadInput : (s.tick).keypadInput = s.keypadInput := rfl

/-! ### drawn -/

@[simp] theorem State.drawn_memory : (s.drawn).memory = s.memory := rfl
@[simp] theorem State.drawn_v : (s.drawn).v = s.v := rfl
@[simp] theorem State.drawn_index : (s.drawn).index = s.index := rfl
@[simp] theorem State.drawn_pc : (s.drawn).pc = s.pc := rfl
@[simp] theorem State.drawn_stack : (s.drawn).stack = s.stack := rfl
@[simp] theorem State.drawn_sp : (s.drawn).sp = s.sp := rfl
@[simp] theorem State.drawn_delayTimer : (s.drawn).delayTimer = s.delayTimer := rfl
@[simp] theorem State.drawn_soundTimer : (s.drawn).soundTimer = s.soundTimer := rfl
@[simp] theorem State.drawn_fb : (s.drawn).fb = s.fb := rfl
@[simp] theorem State.drawn_keypad : (s.drawn).keypad = s.keypad := rfl
@[simp] theorem State.drawn_opcode : (s.drawn).opcode = s.opcode := rfl
@[simp] theorem State.drawn_randomSource : (s.drawn).randomSource = s.randomSource + 1 := rfl
@[simp] theorem State.drawn_fault : (s.drawn).fault = s.fault := rfl
@[simp] theorem State.drawn_keypadInput : (s.drawn).keypadInput = s.keypadInput := rfl

/-! ### writeKeypad -/

@[simp] theorem State.writeKeypad_memory (k : Keypad) : (s.writeKeypad k).memory = s.memory := rfl
@[simp] theorem State.writeKeypad_v (k : Keypad) : (s.writeKeypad k).v = s.v := rfl
@[simp] theorem State.writeKeypad_index (k : Keypad) : (s.writeKeypad k).index = s.index := rfl
@[simp] theorem State.writeKeypad_pc (k : Keypad) : (s.writeKeypad k).pc = s.pc := rfl
@[simp] theorem State.writeKeypad_stack (k : Keypad) : (s.writeKeypad k).stack = s.stack := rfl
@[simp] theorem State.writeKeypad_sp (k : Keypad) : (s.writeKeypad k).sp = s.sp := rfl
@[simp] theorem State.writeKeypad_delayTimer (k : Keypad) : (s.writeKeypad k).delayTimer = s.delayTimer := rfl
@[simp] theorem State.writeKeypad_soundTimer (k : Keypad) : (s.writeKeypad k).soundTimer = s.soundTimer := rfl
@[simp] theorem State.writeKeypad_fb (k : Keypad) : (s.writeKeypad k).fb = s.fb := rfl
@[simp] theorem State.writeKeypad_keypad (k : Keypad) : (s.writeKeypad k).keypad = k := rfl
@[simp] theorem State.writeKeypad_opcode (k : Keypad) : (s.writeKeypad k).opcode = s.opcode := rfl
@[simp] theorem State.writeKeypad_randomSource (k : Keypad) : (s.writeKeypad k).randomSource = s.randomSource := rfl
@[simp] theorem State.writeKeypad_fault (k : Keypad) : (s.writeKeypad k).fault = s.fault := rfl
@[simp] theorem State.writeKeypad_keypadInput (k : Keypad) : (s.writeKeypad k).keypadInput = s.keypadInput := rfl

/-! ### latch -/

@[simp] theorem State.latch_memory (w : Word) : (s.latch w).memory = s.memory := rfl
@[simp] theorem State.latch_v (w : Word) : (s.latch w).v = s.v := rfl
@[simp] theorem State.latch_index (w : Word) : (s.latch w).index = s.index := rfl
@[simp] theorem State.latch_pc (w : Word) : (s.latch w).pc = s.pc := rfl
@[simp] theorem State.latch_stack (w : Word) : (s.latch w).stack = s.stack := rfl
@[simp] theorem State.latch_sp (w : Word) : (s.latch w).sp = s.sp := rfl
@[simp] theorem State.latch_delayTimer (w : Word) : (s.latch w).delayTimer = s.delayTimer := rfl
@[simp] theorem State.latch_soundTimer (w : Word) : (s.latch w).soundTimer = s.soundTimer := rfl
@[simp] theorem State.latch_fb (w : Word) : (s.latch w).fb = s.fb := rfl
@[simp] theorem State.latch_keypad (w : Word) : (s.latch w).keypad = s.keypad := rfl
@[simp] theorem State.latch_opcode (w : Word) : (s.latch w).opcode = w := rfl
@[simp] theorem State.latch_randomSource (w : Word) : (s.latch w).randomSource = s.randomSource := rfl
@[simp] theorem State.latch_fault (w : Word) : (s.latch w).fault = s.fault := rfl
@[simp] theorem State.latch_keypadInput (w : Word) : (s.latch w).keypadInput = s.keypadInput := rfl

/-! ### setMemory -/

@[simp] theorem State.setMemory_memory (m : Memory) : (s.setMemory m).memory = m := rfl
@[simp] theorem State.setMemory_v (m : Memory) : (s.setMemory m).v = s.v := rfl
@[simp] theorem State.setMemory_index (m : Memory) : (s.setMemory m).index = s.index := rfl
@[simp] theorem State.setMemory_pc (m : Memory) : (s.setMemory m).pc = s.pc := rfl
@[simp] theorem State.setMemory_stack (m : Memory) : (s.setMemory m).stack = s.stack := rfl
@[simp] theorem State.setMemory_sp (m : Memory) : (s.setMemory m).sp = s.sp := rfl
@[simp] theorem State.setMemory_delayTimer (m : Memory) : (s.setMemory m).delayTimer = s.delayTimer := rfl
@[simp] theorem State.setMemory_soundTimer (m : Memory) : (s.setMemory m).soundTimer = s.soundTimer := rfl
@[simp] theorem State.setMemory_fb (m : Memory) : (s.setMemory m).fb = s.fb := rfl
@[simp] theorem State.setMemory_keypad (m : Memory) : (s.setMemory m).keypad = s.keypad := rfl
@[simp] theorem State.setMemory_opcode (m : Memory) : (s.setMemory m).opcode = s.opcode := rfl
@[simp] theorem State.setMemory_randomSource (m : Memory) : (s.setMemory m).randomSource = s.randomSource := rfl
@[simp] theorem State.setMemory_fault (m : Memory) : (s.setMemory m).fault = s.fault := rfl
@[simp] theorem State.setMemory_keypadInput (m : Memory) : (s.setMemory m).keypadInput = s.keypadInput := rfl

/-! ### setFb -/

@[simp] theorem State.setFb_memory (fb : Framebuffer) : (s.setFb fb).memory = s.memory := rfl
@[simp] theorem State.setFb_v (fb : Framebuffer) : (s.setFb fb).v = s.v := rfl
@[simp] theorem State.setFb_index (fb : Framebuffer) : (s.setFb fb).index = s.index := rfl
@[simp] theorem State.setFb_pc (fb : Framebuffer) : (s.setFb fb).pc = s.pc := rfl
@[simp] theorem State.setFb_stack (fb : Framebuffer) : (s.setFb fb).stack = s.stack := rfl
@[simp] theorem State.setFb_sp (fb : Framebuffer) : (s.setFb fb).sp = s.sp := rfl
@[simp] theorem State.setFb_delayTimer (fb : Framebuffer) : (s.setFb fb).delayTimer = s.delayTimer := rfl
@[simp] theorem State.setFb_soundTimer (fb : Framebuffer) : (s.setFb fb).soundTimer = s.soundTimer := rfl
@[simp] theorem State.setFb_fb (fb : Framebuffer) : (s.setFb fb).fb = fb := rfl
@[simp] theorem State.setFb_keypad (fb : Framebuffer) : (s.setFb fb).keypad = s.keypad := rfl
@[simp] theorem State.setFb_opcode (fb : Framebuffer) : (s.setFb fb).opcode = s.opcode := rfl
@[simp] theorem State.setFb_randomSource (fb : Framebuffer) : (s.setFb fb).randomSource = s.randomSource := rfl
@[simp] theorem State.setFb_fault (fb : Framebuffer) : (s.setFb fb).fault = s.fault := rfl
@[simp] theorem State.setFb_keypadInput (fb : Framebuffer) : (s.setFb fb).keypadInput = s.keypadInput := rfl

/-! ### setFlagThenReg -/

@[simp] theorem State.setFlagThenReg_memory (x : RegNum) (flag b : Byte) : (s.setFlagThenReg x flag b).memory = s.memory := rfl
@[simp] theorem State.setFlagThenReg_v (x : RegNum) (flag b : Byte) : (s.setFlagThenReg x flag b).v = (s.v.set vf.toNat flag vf.isLt).set x.toNat b x.isLt := rfl
@[simp] theorem State.setFlagThenReg_index (x : RegNum) (flag b : Byte) : (s.setFlagThenReg x flag b).index = s.index := rfl
@[simp] theorem State.setFlagThenReg_pc (x : RegNum) (flag b : Byte) : (s.setFlagThenReg x flag b).pc = s.pc := rfl
@[simp] theorem State.setFlagThenReg_stack (x : RegNum) (flag b : Byte) : (s.setFlagThenReg x flag b).stack = s.stack := rfl
@[simp] theorem State.setFlagThenReg_sp (x : RegNum) (flag b : Byte) : (s.setFlagThenReg x flag b).sp = s.sp := rfl
@[simp] theorem State.setFlagThenReg_delayTimer (x : RegNum) (flag b : Byte) : (s.setFlagThenReg x flag b).delayTimer = s.delayTimer := rfl
@[simp] theorem State.setFlagThenReg_soundTimer (x : RegNum) (flag b : Byte) : (s.setFlagThenReg x flag b).soundTimer = s.soundTimer := rfl
@[simp] theorem State.setFlagThenReg_fb (x : RegNum) (flag b : Byte) : (s.setFlagThenReg x flag b).fb = s.fb := rfl
@[simp] theorem State.setFlagThenReg_keypad (x : RegNum) (flag b : Byte) : (s.setFlagThenReg x flag b).keypad = s.keypad := rfl
@[simp] theorem State.setFlagThenReg_opcode (x : RegNum) (flag b : Byte) : (s.setFlagThenReg x flag b).opcode = s.opcode := rfl
@[simp] theorem State.setFlagThenReg_randomSource (x : RegNum) (flag b : Byte) : (s.setFlagThenReg x flag b).randomSource = s.randomSource := rfl
@[simp] theorem State.setFlagThenReg_fault (x : RegNum) (flag b : Byte) : (s.setFlagThenReg x flag b).fault = s.fault := rfl
@[simp] theorem State.setFlagThenReg_keypadInput (x : RegNum) (flag b : Byte) : (s.setFlagThenReg x flag b).keypadInput = s.keypadInput := rfl

/-! ### skipIf: a taken skip moves only `pc` -/

@[simp] theorem State.skipIf_memory (c : Bool) : (s.skipIf c).memory = s.memory := by cases c <;> rfl
@[simp] theorem State.skipIf_v (c : Bool) : (s.skipIf c).v = s.v := by cases c <;> rfl
@[simp] theorem State.skipIf_index (c : Bool) : (s.skipIf c).index = s.index := by cases c <;> rfl
@[simp] theorem State.skipIf_pc (c : Bool) : (s.skipIf c).pc = if c then s.pc + 2 else s.pc := by cases c <;> rfl
@[simp] theorem State.skipIf_stack (c : Bool) : (s.skipIf c).stack = s.stack := by cases c <;> rfl
@[simp] theorem State.skipIf_sp (c : Bool) : (s.skipIf c).sp = s.sp := by cases c <;> rfl
@[simp] theorem State.skipIf_delayTimer (c : Bool) : (s.skipIf c).delayTimer = s.delayTimer := by cases c <;> rfl
@[simp] theorem State.skipIf_soundTimer (c : Bool) : (s.skipIf c).soundTimer = s.soundTimer := by cases c <;> rfl
@[simp] theorem State.skipIf_fb (c : Bool) : (s.skipIf c).fb = s.fb := by cases c <;> rfl
@[simp] theorem State.skipIf_keypad (c : Bool) : (s.skipIf c).keypad = s.keypad := by cases c <;> rfl
@[simp] theorem State.skipIf_opcode (c : Bool) : (s.skipIf c).opcode = s.opcode := by cases c <;> rfl
@[simp] theorem State.skipIf_randomSource (c : Bool) : (s.skipIf c).randomSource = s.randomSource := by cases c <;> rfl
@[simp] theorem State.skipIf_fault (c : Bool) : (s.skipIf c).fault = s.fault := by cases c <;> rfl
@[simp] theorem State.skipIf_keypadInput (c : Bool) : (s.skipIf c).keypadInput = s.keypadInput := by cases c <;> rfl

/-! ### presentKeys: the host writes only the keypad -/

@[simp] theorem State.presentKeys_memory : s.presentKeys.memory = s.memory := by unfold State.presentKeys; split <;> rfl
@[simp] theorem State.presentKeys_v : s.presentKeys.v = s.v := by unfold State.presentKeys; split <;> rfl
@[simp] theorem State.presentKeys_index : s.presentKeys.index = s.index := by unfold State.presentKeys; split <;> rfl
@[simp] theorem State.presentKeys_pc : s.presentKeys.pc = s.pc := by unfold State.presentKeys; split <;> rfl
@[simp] theorem State.presentKeys_stack : s.presentKeys.stack = s.stack := by unfold State.presentKeys; split <;> rfl
@[simp] theorem State.presentKeys_sp : s.presentKeys.sp = s.sp := by unfold State.presentKeys; split <;> rfl
@[simp] theorem State.presentKeys_delayTimer : s.presentKeys.delayTimer = s.delayTimer := by unfold State.presentKeys; split <;> rfl
@[simp] theorem State.presentKeys_soundTimer : s.presentKeys.soundTimer = s.soundTimer := by unfold State.presentKeys; split <;> rfl
@[simp] theorem State.presentKeys_fb : s.presentKeys.fb = s.fb := by unfold State.presentKeys; split <;> rfl
@[simp] theorem State.presentKeys_opcode : s.presentKeys.opcode = s.opcode := by unfold State.presentKeys; split <;> rfl
@[simp] theorem State.presentKeys_randomSource : s.presentKeys.randomSource = s.randomSource := by unfold State.presentKeys; split <;> rfl
@[simp] theorem State.presentKeys_fault : s.presentKeys.fault = s.fault := by unfold State.presentKeys; split <;> rfl

theorem State.presentKeys_nil (h : s.keypadInput = []) : s.presentKeys = s := by
  unfold State.presentKeys; rw [h]

theorem State.presentKeys_cons {k : Keypad} {ks : List Keypad} (h : s.keypadInput = k :: ks) :
    s.presentKeys = { s with keypad := k, keypadInput := ks } := by
  unfold State.presentKeys; rw [h]

/-! ### Reading a register after a write -/

@[simp] theorem State.reg_setReg_same (x : RegNum) (b : Byte) : (s.setReg x b).reg x = b := by
  simp [State.reg]

theorem State.reg_setReg_ne {x y : RegNum} (b : Byte) (h : y ≠ x) : (s.setReg x b).reg y = s.reg y := by
  have hne : x.toNat ≠ y.toNat := fun e => h (BitVec.eq_of_toNat_eq e.symm)
  simp [State.reg, Vector.getElem_set_ne, hne]

/-- All a register write does to the registers. -/
theorem State.reg_setReg (x y : RegNum) (b : Byte) :
    (s.setReg x b).reg y = if y = x then b else s.reg y := by
  split
  · subst_vars; exact s.reg_setReg_same _ b
  · exact s.reg_setReg_ne b ‹_›

/-- All the two writes of a flag-writing instruction do to the registers (R150). -/
theorem State.reg_setFlagThenReg (x y : RegNum) (flag b : Byte) :
    (s.setFlagThenReg x flag b).reg y = if y = x then b else if y = vf then flag else s.reg y := by
  simp only [State.setFlagThenReg, State.reg_setReg]

@[simp] theorem State.reg_raiseFault (k : FaultKind) (x : RegNum) : (s.raiseFault k).reg x = s.reg x := rfl
@[simp] theorem State.reg_setIndex (w : Word) (x : RegNum) : (s.setIndex w).reg x = s.reg x := rfl
@[simp] theorem State.reg_setPc (w : Word) (x : RegNum) : (s.setPc w).reg x = s.reg x := rfl
@[simp] theorem State.reg_advance (x : RegNum) : (s.advance).reg x = s.reg x := rfl
@[simp] theorem State.reg_setDelayTimer (b : Byte) (x : RegNum) : (s.setDelayTimer b).reg x = s.reg x := rfl
@[simp] theorem State.reg_setSoundTimer (b : Byte) (x : RegNum) : (s.setSoundTimer b).reg x = s.reg x := rfl
@[simp] theorem State.reg_tick (x : RegNum) : (s.tick).reg x = s.reg x := rfl
@[simp] theorem State.reg_drawn (x : RegNum) : (s.drawn).reg x = s.reg x := rfl
@[simp] theorem State.reg_writeKeypad (k : Keypad) (x : RegNum) : (s.writeKeypad k).reg x = s.reg x := rfl
@[simp] theorem State.reg_latch (w : Word) (x : RegNum) : (s.latch w).reg x = s.reg x := rfl
@[simp] theorem State.reg_setMemory (m : Memory) (x : RegNum) : (s.setMemory m).reg x = s.reg x := rfl
@[simp] theorem State.reg_setFb (fb : Framebuffer) (x : RegNum) : (s.setFb fb).reg x = s.reg x := rfl
@[simp] theorem State.reg_skipIf (c : Bool) (x : RegNum) : (s.skipIf c).reg x = s.reg x := by cases c <;> rfl
@[simp] theorem State.reg_presentKeys (x : RegNum) : s.presentKeys.reg x = s.reg x := by
  unfold State.presentKeys; split <;> rfl

end Sys2Proof.Machine
end

