-- ==== Sys2Proof/Laws/Ops.lean ====
section
/-! SUPPORT. For each shared operation, everything it can answer. -/

namespace Sys2Proof.Machine

/-! ### Raising -/

/-- An instruction that may raise always answers a next state (R10). -/
theorem commit_cases (s : State) (r : Except FaultKind State) :
    (∃ t, r = .ok t ∧ commit s r = .next t) ∨ (∃ k, r = .error k ∧ commit s r = .next (s.raiseFault k)) := by
  cases r with
  | ok t => exact .inl ⟨t, rfl, rfl⟩
  | error k => exact .inr ⟨k, rfl, rfl⟩

/-! ### The return stack -/

theorem State.push_cases (s : State) (w : Word) :
    (s.sp.val = 16 ∧ s.push w = .error .stackOverflow) ∨
      ∃ h : s.sp.val < 16,
        s.push w = .ok { s with stack := s.stack.set s.sp.val w h, sp := ⟨s.sp.val + 1, Nat.succ_lt_succ h⟩ } := by
  unfold State.push
  by_cases h : s.sp.val < 16
  · exact .inr ⟨h, by simp [h]⟩
  · exact .inl ⟨by have := s.sp.isLt; omega, by simp [h]⟩

theorem State.pop_cases (s : State) :
    (s.sp.val = 0 ∧ s.pop = .error .stackUnderflow) ∨
      ∃ (_ : 0 < s.sp.val) (h16 : s.sp.val - 1 < 16),
        s.pop = .ok (s.stack[s.sp.val - 1]'h16, { s with sp := ⟨s.sp.val - 1, Nat.lt_succ_of_lt h16⟩ }) := by
  unfold State.pop
  by_cases h : 0 < s.sp.val
  · exact .inr ⟨h, by have := s.sp.isLt; omega, by simp [h]⟩
  · exact .inl ⟨by omega, by simp [h]⟩

/-! ### Registers in a block -/

/-- All a block load does to the registers. -/
theorem getElem_writeRegs (bs : List Byte) (v : Vector Byte 16) (i : Nat) {j : Nat} (hj : j < 16) :
    (writeRegs v i bs)[j] = if h : i ≤ j ∧ j - i < bs.length then bs[j - i]'h.2 else v[j] := by
  induction bs generalizing v i with
  | nil => simp [writeRegs]
  | cons b bs ih =>
    rw [writeRegs, ih]
    by_cases h1 : i = j
    · subst h1
      simp
    · by_cases h2 : i + 1 ≤ j
      · have e : j - i = (j - (i + 1)) + 1 := by omega
        have h3 : i ≤ j := by omega
        simp [h2, h3, e, h1]
      · have h3 : ¬ i ≤ j := by omega
        simp [h2, h3, h1]

theorem State.length_regBlock (s : State) (x : RegNum) : (s.regBlock x).length = x.toNat + 1 := by
  have := x.isLt
  simp [State.regBlock, blockLength]
  omega

/-! ### Keys -/

theorem State.keyPressed_cases (s : State) (k : Byte) :
    (15 < k.toNat ∧ s.keyPressed k = .error .keyOob) ∨
      ∃ h : k.toNat < 16, s.keyPressed k = .ok (s.keypad[k.toNat]'h) := by
  unfold State.keyPressed
  by_cases h : k.toNat < 16
  · exact .inr ⟨h, by simp [h]⟩
  · exact .inl ⟨by omega, by simp [h]⟩

/-- The scan answers the least pressed key at or above its start, if one is pressed. -/
theorem leastPressed_cases (keys : Keypad) (n : Nat) (hn : n ≤ 16) :
    (leastPressed keys n = none ∧ ∀ j (hj : j < 16), 16 - n ≤ j → keys[j] = false) ∨
      ∃ k, ∃ hk : k < 16, leastPressed keys n = some (BitVec.ofNat 8 k) ∧ keys[k] = true ∧
        ∀ j (hj : j < 16), 16 - n ≤ j → j < k → keys[j] = false := by
  induction n with
  | zero => exact .inl ⟨rfl, fun j hj h => by omega⟩
  | succ n ih =>
    rw [leastPressed]
    by_cases hp : keys[15 - n]'(by omega) = true
    · refine .inr ⟨15 - n, by omega, by simp [hp], hp, fun j hj h1 h2 => by omega⟩
    · rw [if_neg hp]
      have hf : keys[15 - n]'(by omega) = false := by simpa using hp
      have hstep : ∀ j (hj : j < 16), 16 - (n + 1) ≤ j → j = 15 - n ∨ 16 - n ≤ j := by omega
      rcases ih (by omega) with ⟨h0, hall⟩ | ⟨k, hk, hs, hkt, hlt⟩
      · refine .inl ⟨h0, fun j hj h => ?_⟩
        rcases hstep j hj h with rfl | h
        · exact hf
        · exact hall j hj h
      · refine .inr ⟨k, hk, hs, hkt, fun j hj h hjk => ?_⟩
        rcases hstep j hj h with rfl | h
        · exact hf
        · exact hlt j hj h hjk

/-! ### Drawing -/

theorem Framebuffer.pixel_setPixel (fb : Framebuffer) {y x : Nat} (b : Bool) (hy : y < 32) (hx : x < 64)
    (py px : Nat) :
    (fb.setPixel y x b).pixel py px = if py = y ∧ px = x then b else fb.pixel py px := by
  unfold Framebuffer.setPixel Framebuffer.pixel
  rw [dif_pos (show y < 32 ∧ x < 64 from ⟨hy, hx⟩)]
  by_cases hp : py < 32 ∧ px < 64
  · rw [dif_pos hp, dif_pos hp]
    simp only [Vector.getElem_set]
    by_cases h1 : y = py
    · subst h1
      by_cases h2 : x = px <;> simp [h2, eq_comm]
    · simp [h1, Ne.symm h1]
  · have hne : ¬ (py = y ∧ px = x) := fun h => hp (by omega)
    rw [dif_neg hp, dif_neg hp, if_neg hne]

@[simp] theorem Framebuffer.pixel_dark (y x : Nat) : Framebuffer.dark.pixel y x = false := by
  unfold Framebuffer.pixel Framebuffer.dark
  split <;> simp

/-- The bit that the columns below `n` of a sprite row at (`y`, `x0`) add to pixel (`py`, `px`). -/
def rowBit (y x0 n : Nat) (sprite : Byte) (py px : Nat) : Bool :=
  decide (py = y ∧ x0 ≤ px ∧ px < x0 + n) && spriteBit sprite (px - x0)

/-- Drawing the first `n` columns of a row. -/
theorem Drawing.columns_spec (d : Drawing) {y x0 : Nat} (sprite : Byte) {n : Nat} (hn : n ≤ 8) (hy : y < 32)
    (hx : x0 + 8 ≤ 64) :
    let d' := (List.range n).foldl (fun d col => d.plot y (x0 + col) (spriteBit sprite col)) d
    (∀ py px, d'.fb.pixel py px = (d.fb.pixel py px ^^ rowBit y x0 n sprite py px)) ∧
      (d'.collision = true ↔
        d.collision = true ∨ ∃ col < n, d.fb.pixel y (x0 + col) = true ∧ spriteBit sprite col = true) := by
  induction n with
  | zero =>
    have h0 : ∀ py px, rowBit y x0 0 sprite py px = false := fun py px => by
      simp only [rowBit, Bool.and_eq_false_iff, decide_eq_false_iff_not]
      omega
    simp [h0]
  | succ n ih =>
    obtain ⟨hpix, hcol⟩ := ih (by omega)
    simp only [List.range_succ, List.foldl_append, List.foldl_cons, List.foldl_nil]
    generalize (List.range n).foldl (fun d col => d.plot y (x0 + col) (spriteBit sprite col)) d = e at hpix hcol ⊢
    have hself : rowBit y x0 n sprite y (x0 + n) = false := by simp [rowBit]
    refine ⟨fun py px => ?_, ?_⟩
    · simp only [Drawing.plot]
      rw [Framebuffer.pixel_setPixel _ _ hy (by omega), hpix, hpix, hself]
      by_cases h : py = y ∧ px = x0 + n
      · obtain ⟨rfl, rfl⟩ := h
        simp [rowBit]
      · rw [if_neg h]
        congr 1
        unfold rowBit
        congr 1
        simp only [decide_eq_decide]
        omega
    · simp only [Drawing.plot, Bool.or_eq_true, hcol, Bool.and_eq_true, hpix, hself, Bool.xor_false]
      constructor
      · rintro ((h | ⟨c, hc, h⟩) | h)
        · exact .inl h
        · exact .inr ⟨c, by omega, h⟩
        · exact .inr ⟨n, by omega, h⟩
      · rintro (h | ⟨c, hc, h⟩)
        · exact .inl (.inl h)
        · by_cases hcn : c = n
          · exact .inr (hcn ▸ h)
          · exact .inl (.inr ⟨c, by omega, h⟩)

/-- All a sprite row does: exclusive or on its eight pixels, and a collision where one was on. -/
theorem Drawing.row_spec (d : Drawing) {y x0 : Nat} (sprite : Byte) (hy : y < 32) (hx : x0 + 8 ≤ 64) :
    (∀ py px, (d.row y x0 sprite).fb.pixel py px = (d.fb.pixel py px ^^ rowBit y x0 8 sprite py px)) ∧
      ((d.row y x0 sprite).collision = true ↔
        d.collision = true ∨ ∃ col < 8, d.fb.pixel y (x0 + col) = true ∧ spriteBit sprite col = true) :=
  d.columns_spec sprite (Nat.le_refl 8) hy hx

/-- The bit a sprite drawn from (`y0`, `x0`) adds to pixel (`py`, `px`). -/
def spriteAt (y0 x0 : Nat) (sprite : List Byte) (py px : Nat) : Bool :=
  decide (y0 ≤ py ∧ x0 ≤ px ∧ px < x0 + 8) &&
    (match sprite[py - y0]? with | some b => spriteBit b (px - x0) | none => false)

theorem spriteAt_cons (y0 x0 : Nat) (b : Byte) (rest : List Byte) (py px : Nat) :
    spriteAt y0 x0 (b :: rest) py px =
      (rowBit y0 x0 8 b py px ^^ spriteAt (y0 + 1) x0 rest py px) := by
  unfold spriteAt rowBit
  rcases Nat.lt_trichotomy py y0 with h | rfl | h
  · have h1 : ¬ y0 ≤ py := by omega
    have h2 : ¬ py = y0 := by omega
    have h3 : ¬ y0 + 1 ≤ py := by omega
    simp [h1, h2, h3]
  · have h3 : ¬ py + 1 ≤ py := by omega
    simp [h3]
  · have h1 : y0 ≤ py := by omega
    have h2 : ¬ py = y0 := by omega
    have h3 : y0 + 1 ≤ py := by omega
    have h4 : py - y0 = (py - (y0 + 1)) + 1 := by omega
    simp [h1, h2, h3, h4]

/-- All the rows of a sprite inside the grid do. -/
theorem Drawing.rows_spec (sprite : List Byte) (d : Drawing) {y0 x0 : Nat} (hy : y0 + sprite.length ≤ 32)
    (hx : x0 + 8 ≤ 64) :
    (∀ py px, (d.rows y0 x0 sprite).fb.pixel py px = (d.fb.pixel py px ^^ spriteAt y0 x0 sprite py px)) ∧
      ((d.rows y0 x0 sprite).collision = true ↔ d.collision = true ∨
        ∃ row, ∃ h : row < sprite.length, ∃ col < 8,
          d.fb.pixel (y0 + row) (x0 + col) = true ∧ spriteBit sprite[row] col = true) := by
  induction sprite generalizing d y0 with
  | nil => simp [Drawing.rows, spriteAt]
  | cons b rest ih =>
    simp only [List.length_cons] at hy
    obtain ⟨rpix, rcol⟩ := d.row_spec (y := y0) b (by omega) hx
    obtain ⟨ipix, icol⟩ := ih (d.row y0 x0 b) (y0 := y0 + 1) (by omega)
    rw [Drawing.rows]
    refine ⟨fun py px => ?_, ?_⟩
    · rw [ipix, rpix, spriteAt_cons, Bool.xor_assoc]
    · have hother : ∀ row col, (d.row y0 x0 b).fb.pixel (y0 + 1 + row) (x0 + col) =
          d.fb.pixel (y0 + 1 + row) (x0 + col) := fun row col => by
        have h : ¬ y0 + 1 + row = y0 := by omega
        simp [rpix, rowBit, h]
      rw [icol, rcol]
      simp only [hother]
      constructor
      · rintro ((h | ⟨c, hc, h⟩) | ⟨row, hr, c, hc, h⟩)
        · exact .inl h
        · exact .inr ⟨0, by simp, c, hc, h⟩
        · refine .inr ⟨row + 1, by simpa using hr, c, hc, ?_⟩
          rwa [Nat.add_right_comm, ← Nat.add_assoc] at *
      · rintro (h | ⟨row, hr, c, hc, h⟩)
        · exact .inl (.inl h)
        · cases row with
          | zero => exact .inl (.inr ⟨c, hc, h⟩)
          | succ row =>
            refine .inr ⟨row, by simpa using hr, c, hc, ?_⟩
            rw [Nat.add_right_comm]
            exact h

end Sys2Proof.Machine
end

