-- ==== Sys2Proof/Laws/Cycle.lean ====
section
/-! SUPPORT. What a Cycle and a step can answer. -/

namespace Sys2Proof.Machine

theorem State.finish_of_fault {t : State} (w : Word) (h : t.fault ≠ .none) : t.finish w = t := by
  simp [State.finish, h]

theorem State.finish_of_none {t : State} (w : Word) (h : t.fault = .none) : t.finish w = (t.latch w).tick := by
  simp [State.finish, h]

/-- All a Cycle can do: nothing on a halted machine, a fetch fault, or what the decoded instruction does. -/
theorem cycle_cases (s : State) :
    (s.fault ≠ .none ∧ cycle s = .next s) ∨
      (s.fault = .none ∧ 4094 < s.pc.toNat ∧ cycle s = .next (s.raiseFault .fetchOob)) ∨
      (s.fault = .none ∧ s.pc.toNat ≤ 4094 ∧
        let w := wordOfBytes (s.memory.byte s.pc.toNat) (s.memory.byte (s.pc.toNat + 1))
        cycle s = match exec (decodeWord w) s with
          | .next t => .next (t.finish w)
          | .fault r => .fault r
          | .refused r => .refused r) := by
  unfold cycle
  by_cases hf : s.fault = .none
  · rcases s.memory.fetch_cases s.pc.toNat with ⟨hp, hw⟩ | ⟨hp, hw⟩
    · refine .inr (.inr ⟨hf, hp, ?_⟩)
      cases hx : exec (decodeWord (wordOfBytes (s.memory.byte s.pc.toNat) (s.memory.byte (s.pc.toNat + 1)))) s <;>
        simp only [hf, hw, hx, if_true]
    · exact .inr (.inl ⟨hf, hp, by simp only [hf, hw, if_true, commit]⟩)
  · exact .inl ⟨hf, by simp [hf]⟩

end Sys2Proof.Machine
end

