-- ==== Sys2Proof/Laws/PerInstr.lean ====
section
/-! SUPPORT. Per-instruction laws. `TableRow.Statement i`: the canonical word of `i` carries the fixed bits of
`i`'s row of spec/opcode_table.json, so the encoder writes a word that selects that row (R102). -/

namespace Sys2Proof.Laws.TableRow

/-- A mask keeps the high part it covers with ones and clears the low part it covers with zeros. -/
theorem and_keeps_high {n m : Nat} (f : BitVec n) (p : BitVec m) :
    (f ++ p) &&& (BitVec.allOnes n ++ 0#m) = f ++ 0#m := by
  rw [BitVec.and_append, BitVec.and_allOnes, BitVec.and_zero]

/-- Mask 0xF000 keeps the family of a word of format XK. -/
theorem and_keeps_family (f : Nibble) (x : RegNum) (kk : Byte) :
    ((f ++ x ++ kk : BitVec (4 + 4 + 8)) : Word) &&& 0xF000#16 = ((f ++ 0#12 : BitVec (4 + 12)) : Word) := by
  have h : ((f ++ x ++ kk : BitVec (4 + 4 + 8)) : Word) = f ++ (x ++ kk : BitVec (4 + 8)) := by
    simpa using BitVec.append_assoc (x₁ := f) (x₂ := x) (x₃ := kk)
  rw [h]
  exact and_keeps_high f (x ++ kk : BitVec (4 + 8))

/-- Mask 0xF000 keeps the family of a word of format XYN. -/
theorem and_keeps_family3 (f : Nibble) (x y : RegNum) (n : Nibble) :
    ((f ++ x ++ y ++ n : BitVec (4 + 4 + 4 + 4)) : Word) &&& 0xF000#16 =
      ((f ++ 0#12 : BitVec (4 + 12)) : Word) := by
  have h : ((f ++ x ++ y ++ n : BitVec (4 + 4 + 4 + 4)) : Word) =
      ((f ++ x ++ (y ++ n : BitVec (4 + 4)) : BitVec (4 + 4 + 8)) : Word) := by
    simpa using BitVec.append_assoc (x₁ := f ++ x) (x₂ := y) (x₃ := n)
  rw [h]
  exact and_keeps_family f x (y ++ n : BitVec (4 + 4))

/-- The word of `i` selects `i`'s row. -/
def Statement (i : Instr) : Prop := encode i &&& i.row.mask = i.row.pattern

theorem op00E0 : Statement .op00E0 := rfl
theorem op00EE : Statement .op00EE := rfl
theorem op1NNN (nnn : Addr12) : Statement (.op1NNN nnn) := and_keeps_high _ nnn
theorem op2NNN (nnn : Addr12) : Statement (.op2NNN nnn) := and_keeps_high _ nnn
theorem op3XKK (x : RegNum) (kk : Byte) : Statement (.op3XKK x kk) := and_keeps_family _ x kk
theorem op4XKK (x : RegNum) (kk : Byte) : Statement (.op4XKK x kk) := and_keeps_family _ x kk
theorem op5XY0 (x : RegNum) (y : RegNum) : Statement (.op5XY0 x y) := by revert x y; unfold Statement; decide
theorem op6XKK (x : RegNum) (kk : Byte) : Statement (.op6XKK x kk) := and_keeps_family _ x kk
theorem op7XKK (x : RegNum) (kk : Byte) : Statement (.op7XKK x kk) := and_keeps_family _ x kk
theorem op8XY0 (x : RegNum) (y : RegNum) : Statement (.op8XY0 x y) := by revert x y; unfold Statement; decide
theorem op8XY1 (x : RegNum) (y : RegNum) : Statement (.op8XY1 x y) := by revert x y; unfold Statement; decide
theorem op8XY2 (x : RegNum) (y : RegNum) : Statement (.op8XY2 x y) := by revert x y; unfold Statement; decide
theorem op8XY3 (x : RegNum) (y : RegNum) : Statement (.op8XY3 x y) := by revert x y; unfold Statement; decide
theorem op8XY4 (x : RegNum) (y : RegNum) : Statement (.op8XY4 x y) := by revert x y; unfold Statement; decide
theorem op8XY5 (x : RegNum) (y : RegNum) : Statement (.op8XY5 x y) := by revert x y; unfold Statement; decide
theorem op8XY6 (x : RegNum) (y : RegNum) : Statement (.op8XY6 x y) := by revert x y; unfold Statement; decide
theorem op8XY7 (x : RegNum) (y : RegNum) : Statement (.op8XY7 x y) := by revert x y; unfold Statement; decide
theorem op8XYE (x : RegNum) (y : RegNum) : Statement (.op8XYE x y) := by revert x y; unfold Statement; decide
theorem op9XY0 (x : RegNum) (y : RegNum) : Statement (.op9XY0 x y) := by revert x y; unfold Statement; decide
theorem opANNN (nnn : Addr12) : Statement (.opANNN nnn) := and_keeps_high _ nnn
theorem opBNNN (nnn : Addr12) : Statement (.opBNNN nnn) := and_keeps_high _ nnn
theorem opCXKK (x : RegNum) (kk : Byte) : Statement (.opCXKK x kk) := and_keeps_family _ x kk
theorem opDXYN (x : RegNum) (y : RegNum) (n : Nibble) : Statement (.opDXYN x y n) := and_keeps_family3 _ x y n
theorem opEX9E (x : RegNum) : Statement (.opEX9E x) := by revert x; unfold Statement; decide
theorem opEXA1 (x : RegNum) : Statement (.opEXA1 x) := by revert x; unfold Statement; decide
theorem opFX07 (x : RegNum) : Statement (.opFX07 x) := by revert x; unfold Statement; decide
theorem opFX0A (x : RegNum) : Statement (.opFX0A x) := by revert x; unfold Statement; decide
theorem opFX15 (x : RegNum) : Statement (.opFX15 x) := by revert x; unfold Statement; decide
theorem opFX18 (x : RegNum) : Statement (.opFX18 x) := by revert x; unfold Statement; decide
theorem opFX1E (x : RegNum) : Statement (.opFX1E x) := by revert x; unfold Statement; decide
theorem opFX29 (x : RegNum) : Statement (.opFX29 x) := by revert x; unfold Statement; decide
theorem opFX33 (x : RegNum) : Statement (.opFX33 x) := by revert x; unfold Statement; decide
theorem opFX55 (x : RegNum) : Statement (.opFX55 x) := by revert x; unfold Statement; decide
theorem opFX65 (x : RegNum) : Statement (.opFX65 x) := by revert x; unfold Statement; decide
theorem nop0NN1 : Statement .nop0NN1 := rfl
theorem nop0NN2 : Statement .nop0NN2 := rfl
theorem nop0NN3 : Statement .nop0NN3 := rfl
theorem nop0NN4 : Statement .nop0NN4 := rfl
theorem nop0NN5 : Statement .nop0NN5 := rfl
theorem nop0NN6 : Statement .nop0NN6 := rfl
theorem nop0NN7 : Statement .nop0NN7 := rfl
theorem nop0NN8 : Statement .nop0NN8 := rfl
theorem nop0NN9 : Statement .nop0NN9 := rfl
theorem nop0NNA : Statement .nop0NNA := rfl
theorem nop0NNB : Statement .nop0NNB := rfl
theorem nop0NNC : Statement .nop0NNC := rfl
theorem nop0NND : Statement .nop0NND := rfl
theorem nop0NNF : Statement .nop0NNF := rfl
theorem nop8XY8 : Statement .nop8XY8 := rfl
theorem nop8XY9 : Statement .nop8XY9 := rfl
theorem nop8XYA : Statement .nop8XYA := rfl
theorem nop8XYB : Statement .nop8XYB := rfl
theorem nop8XYC : Statement .nop8XYC := rfl
theorem nop8XYD : Statement .nop8XYD := rfl
theorem nop8XYF : Statement .nop8XYF := rfl
theorem nopEXN0 : Statement .nopEXN0 := rfl
theorem nopEXN2 : Statement .nopEXN2 := rfl
theorem nopEXN3 : Statement .nopEXN3 := rfl
theorem nopEXN4 : Statement .nopEXN4 := rfl
theorem nopEXN5 : Statement .nopEXN5 := rfl
theorem nopEXN6 : Statement .nopEXN6 := rfl
theorem nopEXN7 : Statement .nopEXN7 := rfl
theorem nopEXN8 : Statement .nopEXN8 := rfl
theorem nopEXN9 : Statement .nopEXN9 := rfl
theorem nopEXNA : Statement .nopEXNA := rfl
theorem nopEXNB : Statement .nopEXNB := rfl
theorem nopEXNC : Statement .nopEXNC := rfl
theorem nopEXND : Statement .nopEXND := rfl
theorem nopEXNF : Statement .nopEXNF := rfl
theorem nopFX00 : Statement .nopFX00 := rfl
theorem nopFX01 : Statement .nopFX01 := rfl
theorem nopFX02 : Statement .nopFX02 := rfl
theorem nopFX03 : Statement .nopFX03 := rfl
theorem nopFX04 : Statement .nopFX04 := rfl
theorem nopFX05 : Statement .nopFX05 := rfl
theorem nopFX06 : Statement .nopFX06 := rfl
theorem nopFX08 : Statement .nopFX08 := rfl
theorem nopFX09 : Statement .nopFX09 := rfl
theorem nopFX0B : Statement .nopFX0B := rfl
theorem nopFX0C : Statement .nopFX0C := rfl
theorem nopFX0D : Statement .nopFX0D := rfl
theorem nopFX0E : Statement .nopFX0E := rfl
theorem nopFX0F : Statement .nopFX0F := rfl
theorem nopFX10 : Statement .nopFX10 := rfl
theorem nopFX11 : Statement .nopFX11 := rfl
theorem nopFX12 : Statement .nopFX12 := rfl
theorem nopFX13 : Statement .nopFX13 := rfl
theorem nopFX14 : Statement .nopFX14 := rfl
theorem nopFX16 : Statement .nopFX16 := rfl
theorem nopFX17 : Statement .nopFX17 := rfl
theorem nopFX19 : Statement .nopFX19 := rfl
theorem nopFX1A : Statement .nopFX1A := rfl
theorem nopFX1B : Statement .nopFX1B := rfl
theorem nopFX1C : Statement .nopFX1C := rfl
theorem nopFX1D : Statement .nopFX1D := rfl
theorem nopFX1F : Statement .nopFX1F := rfl
theorem nopFX20 : Statement .nopFX20 := rfl
theorem nopFX21 : Statement .nopFX21 := rfl
theorem nopFX22 : Statement .nopFX22 := rfl
theorem nopFX23 : Statement .nopFX23 := rfl
theorem nopFX24 : Statement .nopFX24 := rfl
theorem nopFX25 : Statement .nopFX25 := rfl
theorem nopFX26 : Statement .nopFX26 := rfl
theorem nopFX27 : Statement .nopFX27 := rfl
theorem nopFX28 : Statement .nopFX28 := rfl
theorem nopFX2A : Statement .nopFX2A := rfl
theorem nopFX2B : Statement .nopFX2B := rfl
theorem nopFX2C : Statement .nopFX2C := rfl
theorem nopFX2D : Statement .nopFX2D := rfl
theorem nopFX2E : Statement .nopFX2E := rfl
theorem nopFX2F : Statement .nopFX2F := rfl
theorem nopFX30 : Statement .nopFX30 := rfl
theorem nopFX31 : Statement .nopFX31 := rfl
theorem nopFX32 : Statement .nopFX32 := rfl
theorem nopFX34 : Statement .nopFX34 := rfl
theorem nopFX35 : Statement .nopFX35 := rfl
theorem nopFX36 : Statement .nopFX36 := rfl
theorem nopFX37 : Statement .nopFX37 := rfl
theorem nopFX38 : Statement .nopFX38 := rfl
theorem nopFX39 : Statement .nopFX39 := rfl
theorem nopFX3A : Statement .nopFX3A := rfl
theorem nopFX3B : Statement .nopFX3B := rfl
theorem nopFX3C : Statement .nopFX3C := rfl
theorem nopFX3D : Statement .nopFX3D := rfl
theorem nopFX3E : Statement .nopFX3E := rfl
theorem nopFX3F : Statement .nopFX3F := rfl
theorem nopFX40 : Statement .nopFX40 := rfl
theorem nopFX41 : Statement .nopFX41 := rfl
theorem nopFX42 : Statement .nopFX42 := rfl
theorem nopFX43 : Statement .nopFX43 := rfl
theorem nopFX44 : Statement .nopFX44 := rfl
theorem nopFX45 : Statement .nopFX45 := rfl
theorem nopFX46 : Statement .nopFX46 := rfl
theorem nopFX47 : Statement .nopFX47 := rfl
theorem nopFX48 : Statement .nopFX48 := rfl
theorem nopFX49 : Statement .nopFX49 := rfl
theorem nopFX4A : Statement .nopFX4A := rfl
theorem nopFX4B : Statement .nopFX4B := rfl
theorem nopFX4C : Statement .nopFX4C := rfl
theorem nopFX4D : Statement .nopFX4D := rfl
theorem nopFX4E : Statement .nopFX4E := rfl
theorem nopFX4F : Statement .nopFX4F := rfl
theorem nopFX50 : Statement .nopFX50 := rfl
theorem nopFX51 : Statement .nopFX51 := rfl
theorem nopFX52 : Statement .nopFX52 := rfl
theorem nopFX53 : Statement .nopFX53 := rfl
theorem nopFX54 : Statement .nopFX54 := rfl
theorem nopFX56 : Statement .nopFX56 := rfl
theorem nopFX57 : Statement .nopFX57 := rfl
theorem nopFX58 : Statement .nopFX58 := rfl
theorem nopFX59 : Statement .nopFX59 := rfl
theorem nopFX5A : Statement .nopFX5A := rfl
theorem nopFX5B : Statement .nopFX5B := rfl
theorem nopFX5C : Statement .nopFX5C := rfl
theorem nopFX5D : Statement .nopFX5D := rfl
theorem nopFX5E : Statement .nopFX5E := rfl
theorem nopFX5F : Statement .nopFX5F := rfl
theorem nopFX60 : Statement .nopFX60 := rfl
theorem nopFX61 : Statement .nopFX61 := rfl
theorem nopFX62 : Statement .nopFX62 := rfl
theorem nopFX63 : Statement .nopFX63 := rfl
theorem nopFX64 : Statement .nopFX64 := rfl
theorem nopFX66 : Statement .nopFX66 := rfl
theorem nopFX67 : Statement .nopFX67 := rfl
theorem nopFX68 : Statement .nopFX68 := rfl
theorem nopFX69 : Statement .nopFX69 := rfl
theorem nopFX6A : Statement .nopFX6A := rfl
theorem nopFX6B : Statement .nopFX6B := rfl
theorem nopFX6C : Statement .nopFX6C := rfl
theorem nopFX6D : Statement .nopFX6D := rfl
theorem nopFX6E : Statement .nopFX6E := rfl
theorem nopFX6F : Statement .nopFX6F := rfl
theorem nopFX70 : Statement .nopFX70 := rfl
theorem nopFX71 : Statement .nopFX71 := rfl
theorem nopFX72 : Statement .nopFX72 := rfl
theorem nopFX73 : Statement .nopFX73 := rfl
theorem nopFX74 : Statement .nopFX74 := rfl
theorem nopFX75 : Statement .nopFX75 := rfl
theorem nopFX76 : Statement .nopFX76 := rfl
theorem nopFX77 : Statement .nopFX77 := rfl
theorem nopFX78 : Statement .nopFX78 := rfl
theorem nopFX79 : Statement .nopFX79 := rfl
theorem nopFX7A : Statement .nopFX7A := rfl
theorem nopFX7B : Statement .nopFX7B := rfl
theorem nopFX7C : Statement .nopFX7C := rfl
theorem nopFX7D : Statement .nopFX7D := rfl
theorem nopFX7E : Statement .nopFX7E := rfl
theorem nopFX7F : Statement .nopFX7F := rfl
theorem nopFX80 : Statement .nopFX80 := rfl
theorem nopFX81 : Statement .nopFX81 := rfl
theorem nopFX82 : Statement .nopFX82 := rfl
theorem nopFX83 : Statement .nopFX83 := rfl
theorem nopFX84 : Statement .nopFX84 := rfl
theorem nopFX85 : Statement .nopFX85 := rfl
theorem nopFX86 : Statement .nopFX86 := rfl
theorem nopFX87 : Statement .nopFX87 := rfl
theorem nopFX88 : Statement .nopFX88 := rfl
theorem nopFX89 : Statement .nopFX89 := rfl
theorem nopFX8A : Statement .nopFX8A := rfl
theorem nopFX8B : Statement .nopFX8B := rfl
theorem nopFX8C : Statement .nopFX8C := rfl
theorem nopFX8D : Statement .nopFX8D := rfl
theorem nopFX8E : Statement .nopFX8E := rfl
theorem nopFX8F : Statement .nopFX8F := rfl
theorem nopFX90 : Statement .nopFX90 := rfl
theorem nopFX91 : Statement .nopFX91 := rfl
theorem nopFX92 : Statement .nopFX92 := rfl
theorem nopFX93 : Statement .nopFX93 := rfl
theorem nopFX94 : Statement .nopFX94 := rfl
theorem nopFX95 : Statement .nopFX95 := rfl
theorem nopFX96 : Statement .nopFX96 := rfl
theorem nopFX97 : Statement .nopFX97 := rfl
theorem nopFX98 : Statement .nopFX98 := rfl
theorem nopFX99 : Statement .nopFX99 := rfl
theorem nopFX9A : Statement .nopFX9A := rfl
theorem nopFX9B : Statement .nopFX9B := rfl
theorem nopFX9C : Statement .nopFX9C := rfl
theorem nopFX9D : Statement .nopFX9D := rfl
theorem nopFX9E : Statement .nopFX9E := rfl
theorem nopFX9F : Statement .nopFX9F := rfl
theorem nopFXA0 : Statement .nopFXA0 := rfl
theorem nopFXA1 : Statement .nopFXA1 := rfl
theorem nopFXA2 : Statement .nopFXA2 := rfl
theorem nopFXA3 : Statement .nopFXA3 := rfl
theorem nopFXA4 : Statement .nopFXA4 := rfl
theorem nopFXA5 : Statement .nopFXA5 := rfl
theorem nopFXA6 : Statement .nopFXA6 := rfl
theorem nopFXA7 : Statement .nopFXA7 := rfl
theorem nopFXA8 : Statement .nopFXA8 := rfl
theorem nopFXA9 : Statement .nopFXA9 := rfl
theorem nopFXAA : Statement .nopFXAA := rfl
theorem nopFXAB : Statement .nopFXAB := rfl
theorem nopFXAC : Statement .nopFXAC := rfl
theorem nopFXAD : Statement .nopFXAD := rfl
theorem nopFXAE : Statement .nopFXAE := rfl
theorem nopFXAF : Statement .nopFXAF := rfl
theorem nopFXB0 : Statement .nopFXB0 := rfl
theorem nopFXB1 : Statement .nopFXB1 := rfl
theorem nopFXB2 : Statement .nopFXB2 := rfl
theorem nopFXB3 : Statement .nopFXB3 := rfl
theorem nopFXB4 : Statement .nopFXB4 := rfl
theorem nopFXB5 : Statement .nopFXB5 := rfl
theorem nopFXB6 : Statement .nopFXB6 := rfl
theorem nopFXB7 : Statement .nopFXB7 := rfl
theorem nopFXB8 : Statement .nopFXB8 := rfl
theorem nopFXB9 : Statement .nopFXB9 := rfl
theorem nopFXBA : Statement .nopFXBA := rfl
theorem nopFXBB : Statement .nopFXBB := rfl
theorem nopFXBC : Statement .nopFXBC := rfl
theorem nopFXBD : Statement .nopFXBD := rfl
theorem nopFXBE : Statement .nopFXBE := rfl
theorem nopFXBF : Statement .nopFXBF := rfl
theorem nopFXC0 : Statement .nopFXC0 := rfl
theorem nopFXC1 : Statement .nopFXC1 := rfl
theorem nopFXC2 : Statement .nopFXC2 := rfl
theorem nopFXC3 : Statement .nopFXC3 := rfl
theorem nopFXC4 : Statement .nopFXC4 := rfl
theorem nopFXC5 : Statement .nopFXC5 := rfl
theorem nopFXC6 : Statement .nopFXC6 := rfl
theorem nopFXC7 : Statement .nopFXC7 := rfl
theorem nopFXC8 : Statement .nopFXC8 := rfl
theorem nopFXC9 : Statement .nopFXC9 := rfl
theorem nopFXCA : Statement .nopFXCA := rfl
theorem nopFXCB : Statement .nopFXCB := rfl
theorem nopFXCC : Statement .nopFXCC := rfl
theorem nopFXCD : Statement .nopFXCD := rfl
theorem nopFXCE : Statement .nopFXCE := rfl
theorem nopFXCF : Statement .nopFXCF := rfl
theorem nopFXD0 : Statement .nopFXD0 := rfl
theorem nopFXD1 : Statement .nopFXD1 := rfl
theorem nopFXD2 : Statement .nopFXD2 := rfl
theorem nopFXD3 : Statement .nopFXD3 := rfl
theorem nopFXD4 : Statement .nopFXD4 := rfl
theorem nopFXD5 : Statement .nopFXD5 := rfl
theorem nopFXD6 : Statement .nopFXD6 := rfl
theorem nopFXD7 : Statement .nopFXD7 := rfl
theorem nopFXD8 : Statement .nopFXD8 := rfl
theorem nopFXD9 : Statement .nopFXD9 := rfl
theorem nopFXDA : Statement .nopFXDA := rfl
theorem nopFXDB : Statement .nopFXDB := rfl
theorem nopFXDC : Statement .nopFXDC := rfl
theorem nopFXDD : Statement .nopFXDD := rfl
theorem nopFXDE : Statement .nopFXDE := rfl
theorem nopFXDF : Statement .nopFXDF := rfl
theorem nopFXE0 : Statement .nopFXE0 := rfl
theorem nopFXE1 : Statement .nopFXE1 := rfl
theorem nopFXE2 : Statement .nopFXE2 := rfl
theorem nopFXE3 : Statement .nopFXE3 := rfl
theorem nopFXE4 : Statement .nopFXE4 := rfl
theorem nopFXE5 : Statement .nopFXE5 := rfl
theorem nopFXE6 : Statement .nopFXE6 := rfl
theorem nopFXE7 : Statement .nopFXE7 := rfl
theorem nopFXE8 : Statement .nopFXE8 := rfl
theorem nopFXE9 : Statement .nopFXE9 := rfl
theorem nopFXEA : Statement .nopFXEA := rfl
theorem nopFXEB : Statement .nopFXEB := rfl
theorem nopFXEC : Statement .nopFXEC := rfl
theorem nopFXED : Statement .nopFXED := rfl
theorem nopFXEE : Statement .nopFXEE := rfl
theorem nopFXEF : Statement .nopFXEF := rfl
theorem nopFXF0 : Statement .nopFXF0 := rfl
theorem nopFXF1 : Statement .nopFXF1 := rfl
theorem nopFXF2 : Statement .nopFXF2 := rfl
theorem nopFXF3 : Statement .nopFXF3 := rfl
theorem nopFXF4 : Statement .nopFXF4 := rfl
theorem nopFXF5 : Statement .nopFXF5 := rfl
theorem nopFXF6 : Statement .nopFXF6 := rfl
theorem nopFXF7 : Statement .nopFXF7 := rfl
theorem nopFXF8 : Statement .nopFXF8 := rfl
theorem nopFXF9 : Statement .nopFXF9 := rfl
theorem nopFXFA : Statement .nopFXFA := rfl
theorem nopFXFB : Statement .nopFXFB := rfl
theorem nopFXFC : Statement .nopFXFC := rfl
theorem nopFXFD : Statement .nopFXFD := rfl
theorem nopFXFE : Statement .nopFXFE := rfl
theorem nopFXFF : Statement .nopFXFF := rfl

end Sys2Proof.Laws.TableRow
end

