-- ==== Sys2Proof/Tests/Slice0.lean ====
section
/-! SUPPORT. Tests of the model. Expected results are the spec's: the vectors of spec/95_test_vectors.md, named
by their ids there, the examples of the rules, and words written from the encoding tables. A `witness_` theorem
shows states and operands that meet the hypotheses of the obligation it names, at the edge of each clause. -/

namespace Sys2Proof.Tests

open Sys2Proof Sys2Proof.Machine Sys2Proof.Claims

/-! ## Well-formedness: what each check refuses -/

theorem test_rom_of_3585_bytes_is_ill_formed : romWellFormed (List.replicate 3585 0) = false := by
  unfold romWellFormed
  rw [List.length_replicate]
  decide
theorem test_rom_of_3584_bytes_is_well_formed : romWellFormed (List.replicate 3584 0) = true := by
  unfold romWellFormed
  rw [List.length_replicate]
  decide
theorem test_font_past_0x200_is_ill_formed :
    Config.Font.wellFormed { Config.defaultFont with base := 433 } = false := by decide
theorem test_font_up_to_0x200_is_well_formed :
    Config.Font.wellFormed { Config.defaultFont with base := 432 } = true := by decide
theorem test_cells_out_of_order_are_not_canonical :
    Memory.wf { cells := [(0x301, 1), (0x300, 1)], font := Config.defaultFont } = false := by decide
theorem test_cell_above_memory_is_not_canonical :
    Memory.wf { cells := [(4096, 1)], font := Config.defaultFont } = false := by decide
theorem test_cell_with_its_unlisted_value_is_not_canonical :
    Memory.wf { cells := [(0x050, 0xF0)], font := Config.defaultFont } = false := by decide
theorem test_one_byte_is_no_instruction : decode [0x00] = .error .truncated := by decide

/-- Whether each word decodes to the instruction beside it. -/
def rowsDecode (rows : List (Word × Instr)) : Bool := rows.all fun (w, i) => decide (decodeWord w = i)


/-! ## Decoding: one word for every row of the table, free bits mixed (R94 to R101) -/

theorem test_decode_direct_families : rowsDecode
  [(0x17D2, .op1NNN 0x7D2), (0x27D2, .op2NNN 0x7D2), (0x35C3, .op3XKK 0x5 0xC3), (0x45C3, .op4XKK 0x5 0xC3),
   (0x55B6, .op5XY0 0x5 0xB), (0x65C3, .op6XKK 0x5 0xC3), (0x75C3, .op7XKK 0x5 0xC3), (0x95B6, .op9XY0 0x5 0xB),
   (0xA7D2, .opANNN 0x7D2), (0xB7D2, .opBNNN 0x7D2), (0xC5C3, .opCXKK 0x5 0xC3), (0xD5B9, .opDXYN 0x5 0xB 0x9)] = true := by decide

theorem test_decode_family_0 : rowsDecode
  [(0x05A0, .op00E0), (0x05AE, .op00EE), (0x05A1, .nop0NN1), (0x05A2, .nop0NN2),
   (0x05A3, .nop0NN3), (0x05A4, .nop0NN4), (0x05A5, .nop0NN5), (0x05A6, .nop0NN6),
   (0x05A7, .nop0NN7), (0x05A8, .nop0NN8), (0x05A9, .nop0NN9), (0x05AA, .nop0NNA),
   (0x05AB, .nop0NNB), (0x05AC, .nop0NNC), (0x05AD, .nop0NND), (0x05AF, .nop0NNF)] = true := by decide

theorem test_decode_family_8 : rowsDecode
  [(0x85B0, .op8XY0 0x5 0xB), (0x85B1, .op8XY1 0x5 0xB), (0x85B2, .op8XY2 0x5 0xB), (0x85B3, .op8XY3 0x5 0xB),
   (0x85B4, .op8XY4 0x5 0xB), (0x85B5, .op8XY5 0x5 0xB), (0x85B6, .op8XY6 0x5 0xB), (0x85B7, .op8XY7 0x5 0xB),
   (0x85BE, .op8XYE 0x5 0xB), (0x85A8, .nop8XY8), (0x85A9, .nop8XY9), (0x85AA, .nop8XYA),
   (0x85AB, .nop8XYB), (0x85AC, .nop8XYC), (0x85AD, .nop8XYD), (0x85AF, .nop8XYF)] = true := by decide

theorem test_decode_family_E : rowsDecode
  [(0xE5AE, .opEX9E 0x5), (0xE5A1, .opEXA1 0x5), (0xE5A0, .nopEXN0), (0xE5A2, .nopEXN2),
   (0xE5A3, .nopEXN3), (0xE5A4, .nopEXN4), (0xE5A5, .nopEXN5), (0xE5A6, .nopEXN6),
   (0xE5A7, .nopEXN7), (0xE5A8, .nopEXN8), (0xE5A9, .nopEXN9), (0xE5AA, .nopEXNA),
   (0xE5AB, .nopEXNB), (0xE5AC, .nopEXNC), (0xE5AD, .nopEXND), (0xE5AF, .nopEXNF)] = true := by decide

theorem test_decode_family_F_0 : rowsDecode
  [(0xF500, .nopFX00), (0xF501, .nopFX01), (0xF502, .nopFX02), (0xF503, .nopFX03),
   (0xF504, .nopFX04), (0xF505, .nopFX05), (0xF506, .nopFX06), (0xF507, .opFX07 0x5),
   (0xF508, .nopFX08), (0xF509, .nopFX09), (0xF50A, .opFX0A 0x5), (0xF50B, .nopFX0B),
   (0xF50C, .nopFX0C), (0xF50D, .nopFX0D), (0xF50E, .nopFX0E), (0xF50F, .nopFX0F)] = true := by decide

theorem test_decode_family_F_1 : rowsDecode
  [(0xF510, .nopFX10), (0xF511, .nopFX11), (0xF512, .nopFX12), (0xF513, .nopFX13),
   (0xF514, .nopFX14), (0xF515, .opFX15 0x5), (0xF516, .nopFX16), (0xF517, .nopFX17),
   (0xF518, .opFX18 0x5), (0xF519, .nopFX19), (0xF51A, .nopFX1A), (0xF51B, .nopFX1B),
   (0xF51C, .nopFX1C), (0xF51D, .nopFX1D), (0xF51E, .opFX1E 0x5), (0xF51F, .nopFX1F)] = true := by decide

theorem test_decode_family_F_2 : rowsDecode
  [(0xF520, .nopFX20), (0xF521, .nopFX21), (0xF522, .nopFX22), (0xF523, .nopFX23),
   (0xF524, .nopFX24), (0xF525, .nopFX25), (0xF526, .nopFX26), (0xF527, .nopFX27),
   (0xF528, .nopFX28), (0xF529, .opFX29 0x5), (0xF52A, .nopFX2A), (0xF52B, .nopFX2B),
   (0xF52C, .nopFX2C), (0xF52D, .nopFX2D), (0xF52E, .nopFX2E), (0xF52F, .nopFX2F)] = true := by decide

theorem test_decode_family_F_3 : rowsDecode
  [(0xF530, .nopFX30), (0xF531, .nopFX31), (0xF532, .nopFX32), (0xF533, .opFX33 0x5),
   (0xF534, .nopFX34), (0xF535, .nopFX35), (0xF536, .nopFX36), (0xF537, .nopFX37),
   (0xF538, .nopFX38), (0xF539, .nopFX39), (0xF53A, .nopFX3A), (0xF53B, .nopFX3B),
   (0xF53C, .nopFX3C), (0xF53D, .nopFX3D), (0xF53E, .nopFX3E), (0xF53F, .nopFX3F)] = true := by decide

theorem test_decode_family_F_4 : rowsDecode
  [(0xF540, .nopFX40), (0xF541, .nopFX41), (0xF542, .nopFX42), (0xF543, .nopFX43),
   (0xF544, .nopFX44), (0xF545, .nopFX45), (0xF546, .nopFX46), (0xF547, .nopFX47),
   (0xF548, .nopFX48), (0xF549, .nopFX49), (0xF54A, .nopFX4A), (0xF54B, .nopFX4B),
   (0xF54C, .nopFX4C), (0xF54D, .nopFX4D), (0xF54E, .nopFX4E), (0xF54F, .nopFX4F)] = true := by decide

theorem test_decode_family_F_5 : rowsDecode
  [(0xF550, .nopFX50), (0xF551, .nopFX51), (0xF552, .nopFX52), (0xF553, .nopFX53),
   (0xF554, .nopFX54), (0xF555, .opFX55 0x5), (0xF556, .nopFX56), (0xF557, .nopFX57),
   (0xF558, .nopFX58), (0xF559, .nopFX59), (0xF55A, .nopFX5A), (0xF55B, .nopFX5B),
   (0xF55C, .nopFX5C), (0xF55D, .nopFX5D), (0xF55E, .nopFX5E), (0xF55F, .nopFX5F)] = true := by decide

theorem test_decode_family_F_6 : rowsDecode
  [(0xF560, .nopFX60), (0xF561, .nopFX61), (0xF562, .nopFX62), (0xF563, .nopFX63),
   (0xF564, .nopFX64), (0xF565, .opFX65 0x5), (0xF566, .nopFX66), (0xF567, .nopFX67),
   (0xF568, .nopFX68), (0xF569, .nopFX69), (0xF56A, .nopFX6A), (0xF56B, .nopFX6B),
   (0xF56C, .nopFX6C), (0xF56D, .nopFX6D), (0xF56E, .nopFX6E), (0xF56F, .nopFX6F)] = true := by decide

theorem test_decode_family_F_7 : rowsDecode
  [(0xF570, .nopFX70), (0xF571, .nopFX71), (0xF572, .nopFX72), (0xF573, .nopFX73),
   (0xF574, .nopFX74), (0xF575, .nopFX75), (0xF576, .nopFX76), (0xF577, .nopFX77),
   (0xF578, .nopFX78), (0xF579, .nopFX79), (0xF57A, .nopFX7A), (0xF57B, .nopFX7B),
   (0xF57C, .nopFX7C), (0xF57D, .nopFX7D), (0xF57E, .nopFX7E), (0xF57F, .nopFX7F)] = true := by decide

theorem test_decode_family_F_8 : rowsDecode
  [(0xF580, .nopFX80), (0xF581, .nopFX81), (0xF582, .nopFX82), (0xF583, .nopFX83),
   (0xF584, .nopFX84), (0xF585, .nopFX85), (0xF586, .nopFX86), (0xF587, .nopFX87),
   (0xF588, .nopFX88), (0xF589, .nopFX89), (0xF58A, .nopFX8A), (0xF58B, .nopFX8B),
   (0xF58C, .nopFX8C), (0xF58D, .nopFX8D), (0xF58E, .nopFX8E), (0xF58F, .nopFX8F)] = true := by decide

theorem test_decode_family_F_9 : rowsDecode
  [(0xF590, .nopFX90), (0xF591, .nopFX91), (0xF592, .nopFX92), (0xF593, .nopFX93),
   (0xF594, .nopFX94), (0xF595, .nopFX95), (0xF596, .nopFX96), (0xF597, .nopFX97),
   (0xF598, .nopFX98), (0xF599, .nopFX99), (0xF59A, .nopFX9A), (0xF59B, .nopFX9B),
   (0xF59C, .nopFX9C), (0xF59D, .nopFX9D), (0xF59E, .nopFX9E), (0xF59F, .nopFX9F)] = true := by decide

theorem test_decode_family_F_A : rowsDecode
  [(0xF5A0, .nopFXA0), (0xF5A1, .nopFXA1), (0xF5A2, .nopFXA2), (0xF5A3, .nopFXA3),
   (0xF5A4, .nopFXA4), (0xF5A5, .nopFXA5), (0xF5A6, .nopFXA6), (0xF5A7, .nopFXA7),
   (0xF5A8, .nopFXA8), (0xF5A9, .nopFXA9), (0xF5AA, .nopFXAA), (0xF5AB, .nopFXAB),
   (0xF5AC, .nopFXAC), (0xF5AD, .nopFXAD), (0xF5AE, .nopFXAE), (0xF5AF, .nopFXAF)] = true := by decide

theorem test_decode_family_F_B : rowsDecode
  [(0xF5B0, .nopFXB0), (0xF5B1, .nopFXB1), (0xF5B2, .nopFXB2), (0xF5B3, .nopFXB3),
   (0xF5B4, .nopFXB4), (0xF5B5, .nopFXB5), (0xF5B6, .nopFXB6), (0xF5B7, .nopFXB7),
   (0xF5B8, .nopFXB8), (0xF5B9, .nopFXB9), (0xF5BA, .nopFXBA), (0xF5BB, .nopFXBB),
   (0xF5BC, .nopFXBC), (0xF5BD, .nopFXBD), (0xF5BE, .nopFXBE), (0xF5BF, .nopFXBF)] = true := by decide

theorem test_decode_family_F_C : rowsDecode
  [(0xF5C0, .nopFXC0), (0xF5C1, .nopFXC1), (0xF5C2, .nopFXC2), (0xF5C3, .nopFXC3),
   (0xF5C4, .nopFXC4), (0xF5C5, .nopFXC5), (0xF5C6, .nopFXC6), (0xF5C7, .nopFXC7),
   (0xF5C8, .nopFXC8), (0xF5C9, .nopFXC9), (0xF5CA, .nopFXCA), (0xF5CB, .nopFXCB),
   (0xF5CC, .nopFXCC), (0xF5CD, .nopFXCD), (0xF5CE, .nopFXCE), (0xF5CF, .nopFXCF)] = true := by decide

theorem test_decode_family_F_D : rowsDecode
  [(0xF5D0, .nopFXD0), (0xF5D1, .nopFXD1), (0xF5D2, .nopFXD2), (0xF5D3, .nopFXD3),
   (0xF5D4, .nopFXD4), (0xF5D5, .nopFXD5), (0xF5D6, .nopFXD6), (0xF5D7, .nopFXD7),
   (0xF5D8, .nopFXD8), (0xF5D9, .nopFXD9), (0xF5DA, .nopFXDA), (0xF5DB, .nopFXDB),
   (0xF5DC, .nopFXDC), (0xF5DD, .nopFXDD), (0xF5DE, .nopFXDE), (0xF5DF, .nopFXDF)] = true := by decide

theorem test_decode_family_F_E : rowsDecode
  [(0xF5E0, .nopFXE0), (0xF5E1, .nopFXE1), (0xF5E2, .nopFXE2), (0xF5E3, .nopFXE3),
   (0xF5E4, .nopFXE4), (0xF5E5, .nopFXE5), (0xF5E6, .nopFXE6), (0xF5E7, .nopFXE7),
   (0xF5E8, .nopFXE8), (0xF5E9, .nopFXE9), (0xF5EA, .nopFXEA), (0xF5EB, .nopFXEB),
   (0xF5EC, .nopFXEC), (0xF5ED, .nopFXED), (0xF5EE, .nopFXEE), (0xF5EF, .nopFXEF)] = true := by decide

theorem test_decode_family_F_F : rowsDecode
  [(0xF5F0, .nopFXF0), (0xF5F1, .nopFXF1), (0xF5F2, .nopFXF2), (0xF5F3, .nopFXF3),
   (0xF5F4, .nopFXF4), (0xF5F5, .nopFXF5), (0xF5F6, .nopFXF6), (0xF5F7, .nopFXF7),
   (0xF5F8, .nopFXF8), (0xF5F9, .nopFXF9), (0xF5FA, .nopFXFA), (0xF5FB, .nopFXFB),
   (0xF5FC, .nopFXFC), (0xF5FD, .nopFXFD), (0xF5FE, .nopFXFE), (0xF5FF, .nopFXFF)] = true := by decide

theorem test_table_words_are_numbered_from_the_low_bit : decodeTableWord 16 0x8124 = some (.op8XY4 0x1 0x2) := by
  decide

/-! ## Helpers: small states, one step -/

/-- The reset state with the registers listed. -/
def withV (l : List (Nat × Byte)) : State :=
  { State.reset with v := l.foldl (fun v p => v.setIfInBounds p.1 p.2) State.reset.v }

/-- A state with bytes stored from `a`. -/
def State.bytesAt (s : State) (a : Nat) (bs : List Byte) : State := s.setMemory (s.memory.putBytes a bs)

/-- A keypad with the keys listed down. -/
def keysDown (l : List Nat) : Keypad := Vector.ofFn fun k => l.contains k.val

/-- What `f` reads after one step that runs `w`. -/
def after {α : Type} (s : State) (w : Nat) (f : State → α) : Option α :=
  (nextOf (step (s.withFetchWord 16 w))).map f

/-- What `f` reads after one step that runs `w`, if the step is a next state with no fault. -/
def goesOn {α : Type} (s : State) (w : Nat) (f : State → α) : Option α :=
  (nextOf (step (s.withFetchWord 16 w))).bind fun t => if t.fault = .none then some (f t) else none

/-- The pixels of a stretch of a row. -/
def pixels (s : State) (y x n : Nat) : List Bool := (List.range n).map fun c => s.fb.pixel y (x + c)

/-! ## No-ops (N1 to N5, R129) -/

theorem test_N1 : goesOn { State.reset with delayTimer := 3 } 0x0001 (fun t => (t.pc, t.delayTimer)) =
    some (0x202, 2) := by decide
theorem test_N2 : goesOn (withV [(1, 5), (2, 6)]) 0x8128 (fun t => (t.pc, t.reg 1, t.reg 0xF)) =
    some (0x202, 5, 0) := by decide
theorem test_N3 : goesOn (withV [(5, 0xFF)]) 0xE59F (·.pc) = some 0x202 := by decide
theorem test_N5 : goesOn State.reset 0xF575 (·.pc) = some 0x202 := by decide

/-! ## Control transfer -/

theorem test_N7 : goesOn { State.reset with sp := 1, stack := State.reset.stack.set 0 0x400 } 0x0FFE
    (fun t => (t.pc, t.sp)) = some (0x400, 0) := by decide
theorem test_C5 : after State.reset 0x00EE (fun t => (t.readFault, t.pc, t.opcode)) = some (3, 0x200, 0) := by
  decide
theorem test_jump : goesOn State.reset 0x1234 (·.pc) = some 0x234 := by decide
theorem test_C3 : goesOn { State.reset with pc := 0xFFE } 0x2300 (fun t => (t.stack[0], t.sp, t.pc)) =
    some (0x1000, 1, 0x300) := by decide
theorem test_C4 : after { State.reset with sp := 16 } 0x2300 (fun t => (t.readFault, t.pc, t.sp)) =
    some (2, 0x200, 16) := by decide
theorem test_C7 : goesOn (withV [(0xF, 1)]) 0x3F01 (·.pc) = some 0x204 := by decide
theorem test_C8 : goesOn State.reset 0x4300 (·.pc) = some 0x202 := by decide
theorem test_N8 : goesOn (withV [(1, 7), (2, 7)]) 0x512F (·.pc) = some 0x204 := by decide
theorem test_N9 : goesOn (withV [(1, 7), (2, 7)]) 0x9127 (·.pc) = some 0x202 := by decide
theorem test_9XY0_skips : goesOn (withV [(1, 7), (2, 8)]) 0x9120 (·.pc) = some 0x204 := by decide
theorem test_C12 : goesOn (withV [(0, 0xFF)]) 0xBFFF (·.pc) = some 0x10FE := by decide
theorem test_C13 : goesOn State.reset 0xB201 (·.pc) = some 0x201 := by decide
theorem test_C14_odd_address : goesOn { State.reset with pc := 0x203 } 0x602A
    (fun t => (t.opcode, t.reg 0, t.pc)) = some (0x602A, 0x2A, 0x205) := by decide
theorem test_C2_fetch : after { State.reset with pc := 0xFFF } 0x0000 (fun t => (t.readFault, t.pc)) =
    some (1, 0xFFF) := by decide
theorem test_X1_halted : nextOf (step { State.reset with fault := .drawOob, delayTimer := 9 }) =
    some { State.reset with fault := .drawOob, delayTimer := 9 } := by decide

/-! ## Registers -/

theorem test_S9_load : goesOn State.reset 0x6A05 (·.reg 0xA) = some 5 := by decide
theorem test_A2 : goesOn (withV [(2, 0xFE)]) 0x7203 (fun t => (t.reg 2, t.reg 0xF)) = some (1, 0) := by decide
theorem test_A4 : goesOn (withV [(2, 0x9C)]) 0x8120 (fun t => (t.reg 1, t.reg 2)) = some (0x9C, 0x9C) := by decide
theorem test_A5 : goesOn (withV [(1, 0x0F), (2, 0xF0), (0xF, 0x55)]) 0x8121 (fun t => (t.reg 1, t.reg 0xF)) =
    some (0xFF, 0x55) := by decide
theorem test_A6 : goesOn (withV [(1, 0x3C), (2, 0x0F)]) 0x8122 (·.reg 1) = some 0x0C := by decide
theorem test_xor : goesOn (withV [(1, 0xFF), (2, 0x0F)]) 0x8123 (·.reg 1) = some 0xF0 := by decide
theorem test_A12 : goesOn (withV [(1, 1), (0xF, 0xFF)]) 0x81F4 (fun t => (t.reg 1, t.reg 0xF)) = some (0, 1) := by
  decide
theorem test_A13 : goesOn (withV [(0xF, 0xF0), (2, 0x20)]) 0x8F24 (·.reg 0xF) = some 0x10 := by decide
theorem test_A16 : goesOn (withV [(1, 0x10), (2, 0x10), (0xF, 1)]) 0x8125 (fun t => (t.reg 1, t.reg 0xF)) =
    some (0, 0) := by decide
theorem test_A18 : goesOn (withV [(1, 5), (0xF, 3)]) 0x81F5 (fun t => (t.reg 1, t.reg 0xF)) = some (2, 1) := by
  decide
theorem test_A25 : goesOn (withV [(3, 5), (4, 0xFF)]) 0x8346 (fun t => (t.reg 3, t.reg 4, t.reg 0xF)) =
    some (2, 0xFF, 1) := by decide
theorem test_A26 : goesOn (withV [(0xF, 5)]) 0x8F06 (·.reg 0xF) = some 2 := by decide
theorem test_A20 : goesOn (withV [(1, 0x10), (2, 0x20)]) 0x8127 (fun t => (t.reg 1, t.reg 2, t.reg 0xF)) =
    some (0x10, 0x20, 1) := by decide
theorem test_A21 : goesOn (withV [(1, 0x20), (2, 0x10)]) 0x8127 (fun t => (t.reg 1, t.reg 0xF)) =
    some (0xF0, 0) := by decide
theorem test_A27 : goesOn (withV [(3, 0x80)]) 0x830E (fun t => (t.reg 3, t.reg 0xF)) = some (0, 1) := by decide
theorem test_A28 : goesOn (withV [(3, 0x7F)]) 0x830E (fun t => (t.reg 3, t.reg 0xF)) = some (0xFE, 0) := by decide
theorem test_A31 : goesOn (withV [(4, 9)]) 0xC400 (fun t => (t.reg 4 &&& 0xFF, t.randomSource)) = some (0, 1) := by
  have h : ∀ r : Byte, r &&& 0 &&& 0xFF = 0 := by decide
  exact congrArg (fun b : Byte => some (b, 1)) (h (Config.randomByte 0))

/-! ## Index and memory -/

theorem test_M1 : goesOn State.reset 0xAFFF (·.index) = some 0xFFF := by decide
theorem test_M2 : goesOn { withV [(2, 1)] with index := 0xFFFF } 0xF21E (fun t => (t.index, t.reg 0xF)) =
    some (0, 0) := by decide
theorem test_M3 : goesOn { withV [(2, 0xFF)] with index := 0xFFF } 0xF21E (·.index) = some 0x10FE := by decide
theorem test_M5 : goesOn (withV [(4, 0x0F)]) 0xF429 (·.index) = some 0x09B := by decide
theorem test_M6 : goesOn (withV [(4, 0xFF)]) 0xF429 (·.index) = some 0x54B := by decide
theorem test_S5 : goesOn { withV [(0, 157)] with index := 0x300 } 0xF033 (fun t => t.memory.bytes 0x300 3) =
    some [1, 5, 7] := by decide
theorem test_M11 : after { withV [(0, 9)] with index := 0xFFE, delayTimer := 9 } 0xF033
    (fun t => (t.readFault, t.pc, t.memory.byte 0xFFE, t.delayTimer)) = some (5, 0x200, 0, 9) := by decide
theorem test_M12 : goesOn { withV [(0, 0x11), (1, 0x22), (2, 0x33), (3, 0x44)] with index := 0x300 } 0xF255
    (fun t => (t.memory.bytes 0x300 4, t.index)) = some ([0x11, 0x22, 0x33, 0], 0x300) := by decide
theorem test_M15 : goesOn { withV [(0, 0xAA)] with index := 0x050 } 0xF055 (fun t => t.memory.bytes 0x050 2) =
    some [0xAA, 0x90] := by decide
theorem test_M16 : goesOn (State.bytesAt { withV [(2, 0x77)] with index := 0x300 } 0x300 [0xAB, 0xCD, 0xEF]) 0xF165
    (fun t => (t.reg 0, t.reg 1, t.reg 2, t.index)) = some (0xAB, 0xCD, 0x77, 0x300) := by decide
theorem test_M20 : after { State.reset with index := 0xFFFF } 0xF165 (·.readFault) = some 4 := by decide

/-! ## Display -/

theorem test_G19 : goesOn { withV [(0xF, 9)] with fb := Vector.replicate 32 (Vector.replicate 64 true) } 0x00E0
    (fun t => (pixels t 31 56 8, t.reg 0xF)) = some (List.replicate 8 false, 9) := by decide
theorem test_G3 :
    let lit : Framebuffer := State.reset.fb.set 0 (Vector.ofFn fun x => decide (x.val < 4))
    goesOn (State.bytesAt { State.reset with index := 0x300, fb := lit } 0x300 [0x18]) 0xD121
    (fun t => (pixels t 0 0 8, t.reg 0xF)) =
    some ([true, true, true, false, true, false, false, false], 1) := by decide
theorem test_G17 : after { withV [(1, 0x3C)] with index := 0xFFF } 0xD122 (·.readFault) = some 4 := by decide
theorem test_G18_old_VF_is_the_column :
    goesOn (State.bytesAt { withV [(0xF, 5), (1, 2)] with index := 0x300 } 0x300 [0x80]) 0xDF11
      (fun t => (pixels t 2 4 3, t.reg 0xF)) = some ([false, true, false], 0) := by decide

/-! ## Keypad and timers -/

theorem test_K1 : goesOn { withV [(5, 0xA)] with keypad := keysDown [0xA] } 0xE59E (·.pc) = some 0x204 := by decide
theorem test_K5 : after { withV [(5, 0x10)] with keypad := keysDown [0] } 0xE59E
    (fun t => (t.readFault, t.pc)) = some (7, 0x200) := by decide
theorem test_K3 : goesOn (withV [(5, 0xA)]) 0xE5A1 (·.pc) = some 0x204 := by decide
theorem test_K6 : after (withV [(5, 0xFF)]) 0xE5A1 (·.readFault) = some 7 := by decide
theorem test_K7 : goesOn { withV [(3, 0xEE)] with delayTimer := 5 } 0xF30A
    (fun t => (t.pc, t.reg 3, t.delayTimer)) = some (0x200, 0xEE, 4) := by decide
theorem test_K9 : goesOn { State.reset with keypadInput := [keysDown [7, 0xC]] } 0xF30A
    (fun t => (t.reg 3, t.pc)) = some (7, 0x202) := by decide
theorem test_T1 : goesOn { State.reset with delayTimer := 0x20 } 0xF407 (fun t => (t.reg 4, t.delayTimer)) =
    some (0x20, 0x1F) := by decide
theorem test_T4 : goesOn (withV [(4, 0x3C)]) 0xF415 (·.delayTimer) = some 0x3B := by decide
theorem test_T6 : goesOn { State.reset with delayTimer := 9 } 0xF415 (·.delayTimer) = some 0 := by decide
theorem test_T8 : goesOn (withV [(4, 5)]) 0xF418 (·.soundTimer) = some 4 := by decide

/-! ## The host -/

theorem test_S4_load : (State.reset.load [0x12, 0x34, 0x56]).map (fun t => t.memory.bytes 0x200 4) =
    some [0x12, 0x34, 0x56, 0] := by decide
theorem test_X4_reset : (State.hostReset { State.reset with fault := .stackOverflow, pc := 7 }).readFault = 0 ∧
    (State.hostReset { State.reset with fault := .stackOverflow, pc := 7 }).pc = 0x200 := by decide
theorem test_font_after_reset : State.reset.memory.bytes 0x082 5 = [0xF0, 0x90, 0xF0, 0x90, 0x90] := by decide

/-! ## Witnesses -/

/-- A state at the edge of the invariant: pc 4350, one live return address 4096. -/
def edge : State :=
  { State.reset with pc := 4350, sp := 1, stack := State.reset.stack.set 0 4096 }

/-- A state whose next word is `w`. -/
def next (w : Nat) (s : State) : State := s.withFetchWord 16 w

theorem edge_inv : edge.Inv where
  memoryWf := by decide
  fontWf := by decide
  pcBounded := by decide
  stackBounded := by
    intro k h hk
    have h0 : k = 0 := by
      have : k < 1 := hk
      omega
    subst h0
    exact Nat.le_refl 4096

theorem witness_DecodeOfEncodeIsIdentity : (Instr.op8XY4 0x1 0x2).wellFormed = true := by decide
theorem witness_EveryWordSelectsItsRowAlone :
    (0x8124 : Word) &&& (Instr.op8XY4 0x1 0x2).row.mask = (Instr.op8XY4 0x1 0x2).row.pattern := by decide
theorem witness_HostResetRestartsFromAnyState : edge.memory.font.wellFormed = true := by decide
theorem witness_LoadCopiesOrRejects : edge.memory.wf = true ∧ (List.replicate 3584 (0 : Byte)).length ≤ 3584 ∧
    ¬ (List.replicate 3585 (0 : Byte)).length ≤ 3584 := by
  simp only [List.length_replicate]
  decide
theorem witness_HostOperationsKeepInvariant : edge.Inv := edge_inv
theorem witness_StepRunsTheDecodedInstruction :
    let s := next 0x6A05 { State.reset with pc := 4094 }
    s.fault = .none ∧ s.memory.read s.pc.toNat = some 0x6A ∧ s.memory.read (s.pc.toNat + 1) = some 0x05 ∧
      decode [0x6A, 0x05] = .ok (.op6XKK 0xA 0x05, []) ∧ (Instr.op6XKK 0xA 0x05).wellFormed = true := by decide
theorem witness_FetchIsBigEndianOrFaults :
    (next 0x6A05 { State.reset with pc := 4094 }).memory.read 4094 = some 0x6A ∧
    (next 0x6A05 { State.reset with pc := 4094 }).memory.read 4095 = some 0x05 ∧ 4095 > 4094 ∧
    ({ State.reset with pc := 4095 } : State).fault = .none ∧
    ({ State.reset with pc := 4095 } : State).pc.toNat > 4094 := by decide
theorem witness_HaltedMachineChangesNothing :
    ({ State.reset with fault := .keyOob } : State).fault ≠ .none ∧
    ({ State.reset with fault := .keyOob } : State).keypadInput = [] := by decide
theorem witness_FaultingCycleWritesOnlyFault :
    let s := next 0x00EE State.reset
    s.fault = .none ∧ step s = .next { s with fault := .stackUnderflow } ∧
      ({ s with fault := .stackUnderflow } : State).fault ≠ .none := ⟨by decide, rfl, by decide⟩

/-- Each code of R241 at the edge of its condition, and beside it the code 0. -/
theorem witness_FaultKindsAreExactlyTheTable :
    faultCode { State.reset with pc := 4095 } = 1 ∧ faultCode { State.reset with pc := 4094 } = 0 ∧
    faultCode (next 0x2300 { State.reset with sp := 16 }) = 2 ∧
    faultCode (next 0x2300 { State.reset with sp := 15 }) = 0 ∧
    faultCode (next 0x00EE State.reset) = 3 ∧ faultCode (next 0x00EE { State.reset with sp := 1 }) = 0 ∧
    faultCode (next 0xF165 { State.reset with index := 4095 }) = 4 ∧
    faultCode (next 0xF165 { State.reset with index := 4094 }) = 0 ∧
    faultCode (next 0xF033 { State.reset with index := 4094 }) = 5 ∧
    faultCode (next 0xF033 { State.reset with index := 4093 }) = 0 ∧
    faultCode (next 0xF155 { State.reset with index := 4095 }) = 5 ∧
    faultCode (next 0xF155 { State.reset with index := 4094 }) = 0 := by decide
theorem witness_FaultKindsAreExactlyTheTable_draw_and_keys :
    faultCode (next 0xD122 { State.reset with index := 4095 }) = 4 ∧
    faultCode (next 0xD121 { State.reset with index := 4095 }) = 0 ∧
    faultCode (next 0xD121 (withV [(1, 57)])) = 6 ∧ faultCode (next 0xD121 (withV [(1, 56)])) = 0 ∧
    faultCode (next 0xD122 (withV [(2, 31)])) = 6 ∧ faultCode (next 0xD121 (withV [(2, 31)])) = 0 ∧
    faultCode (next 0xD120 { withV [(1, 63), (2, 63)] with index := 0xFFFF }) = 0 ∧
    faultCode (next 0xE59E (withV [(5, 16)])) = 7 ∧ faultCode (next 0xE59E (withV [(5, 15)])) = 0 ∧
    faultCode (next 0xE5A1 (withV [(5, 16)])) = 7 ∧ faultCode (next 0xE5A1 (withV [(5, 15)])) = 0 := by decide

theorem witness_TimersTickOncePerCycle :
    (∃ t, step (next 0xF415 (withV [(4, 1)])) = .next t ∧ t.fault = .none) ∧
    (∃ t, step (next 0xF418 (withV [(4, 1)])) = .next t ∧ t.fault = .none) ∧
    (∃ t, step (next 0x00EE State.reset) = .next t ∧ t.fault ≠ .none) :=
  ⟨⟨_, rfl, by decide⟩, ⟨_, rfl, by decide⟩, ⟨_, rfl, by decide⟩⟩
theorem witness_OpcodeLatchHoldsTheFetchedWord :
    (∃ t, step (next 0x6A05 State.reset) = .next t ∧ t.fault = .none) ∧
    (∃ t, step (next 0x00EE State.reset) = .next t ∧ t.fault ≠ .none) :=
  ⟨⟨_, rfl, by decide⟩, ⟨_, rfl, by decide⟩⟩
theorem witness_ProgramCounterAdvancesByClass :
    (∃ t, step (next 0x1FFF { State.reset with pc := 4094 }) = .next t ∧ t.fault = .none) ∧
    (∃ t, step (next 0x3000 { State.reset with pc := 4094 }) = .next t ∧ t.fault = .none) ∧
    (∃ t, step (next 0x00EE { edge with pc := 0x200 }) = .next t ∧ t.fault = .none) ∧
    (∃ t, step (next 0xF30A State.reset) = .next t ∧ t.fault = .none) :=
  ⟨⟨_, rfl, by decide⟩, ⟨_, rfl, by decide⟩, ⟨_, rfl, by decide⟩, ⟨_, rfl, by decide⟩⟩
theorem witness_StepKeepsInvariant : edge.Inv ∧ ∃ t, step edge = .next t := ⟨edge_inv, _, rfl⟩
theorem witness_DeadStackEntriesAreNeverRead :
    AgreeButDeadEntries edge { edge with stack := edge.stack.set 1 7 } ∧ edge.stack ≠ edge.stack.set 1 7 ∧
      ∃ t, step edge = .next t := by
  refine ⟨⟨rfl, fun k h hk => ?_⟩, by decide, _, rfl⟩
  have h0 : k = 0 := by
    have : k < 1 := hk
    omega
  subst h0
  rfl

/-- Each piece of state of R20 does change under the instruction that may change it. -/
theorem witness_OnlyNamedInstructionsWriteEachField :
    let changes (i : Instr) (s : State) (f : State → State → Bool) : Bool :=
      match nextOf (exec i s) with | some t => f s t | none => false
    let s := { withV [(0, 1), (1, 2)] with index := 0x300, sp := 1 }
    changes (.opFX33 0) s (fun s t => t.memory != s.memory) = true ∧
    changes (.opFX55 0) s (fun s t => t.memory != s.memory) = true ∧
    changes (.op8XY4 0 1) s (fun s t => t.v != s.v) = true ∧
    changes (.opANNN 1) s (fun s t => t.index != s.index) = true ∧
    changes (.opFX1E 1) s (fun s t => t.index != s.index) = true ∧
    changes (.opFX29 1) s (fun s t => t.index != s.index) = true ∧
    changes (.op2NNN 1) s (fun s t => t.stack != s.stack && t.sp != s.sp) = true ∧
    changes .op00EE s (fun s t => t.sp != s.sp) = true ∧
    changes (.opFX15 1) s (fun s t => t.delayTimer != s.delayTimer) = true ∧
    changes (.opFX18 1) s (fun s t => t.soundTimer != s.soundTimer) = true ∧
    changes (.opCXKK 1 0) s (fun s t => t.randomSource != s.randomSource) = true := by decide
theorem witness_OnlyNamedInstructionsWriteEachField_fb :
    (∃ t, exec .op00E0 { State.reset with fb := Vector.replicate 32 (Vector.replicate 64 true) } = .next t ∧
      t.fb ≠ Vector.replicate 32 (Vector.replicate 64 true)) ∧
    ∃ t, exec (.opDXYN 0 0 1) { State.reset with index := 0x050 } = .next t ∧ t.fb ≠ State.reset.fb :=
  ⟨⟨_, rfl, by decide⟩, ⟨_, rfl, by decide⟩⟩
theorem witness_KeypadIsReadByKeyInstructionsOnly : readsKeypad (.opFX07 0x4) = false := by decide
theorem witness_StoredBytesAreFetchedNext :
    let s := next 0xF155 { withV [(0, 0x12), (1, 0x0C)] with index := 0x202 }
    s.memory.wf = true ∧ (∃ t, step s = .next t ∧ t.fault = .none) ∧ decodeWord (wordAt s) = .opFX55 0x1 ∧
      s.index.toNat ≤ s.pc.toNat + 2 ∧ s.pc.toNat + 3 ≤ s.index.toNat + (0x1 : RegNum).toNat :=
  ⟨by decide, ⟨_, rfl, by decide⟩, by decide, by decide, by decide⟩
theorem witness_RegistersAndFlagWrittenOnlyAsNamed :
    (∃ t, exec (.op8XY4 0x1 0x2) State.reset = .next t ∧ t.fault = .none) ∧ State.reset.fault = .none ∧
      mayWrite (.op8XY4 0x1 0x2) 0x2 = false ∧ leavesFlag (.op8XY4 0x1 0x2) = true ∧
      mayWrite (.opFX65 0xE) 0xF = false := ⟨⟨_, rfl, by decide⟩, by decide, by decide, by decide, by decide⟩
theorem witness_CanonicalMemoriesWithEqualBytesAreEqual :
    let m : Memory := { cells := [(0, 1), (4095, 2)], font := Config.defaultFont }
    let m' : Memory := Memory.put (Memory.put (Memory.put { m with cells := [] } 4095 2) 0 3) 0 1
    m.wf = true ∧ m'.wf = true ∧ m.font = m'.font ∧ m = m' := by decide
theorem witness_UnassignedWordsAreNoOperations :
    Instr.nopFXFF.isUnassigned = true ∧
      let s := next 0xF0FF { State.reset with pc := 4094 }
      s.fault = .none ∧ s.pc.toNat ≤ 4094 ∧ (decodeWord (wordAt s)).isUnassigned = true := by decide
theorem witness_CallPushesTheReturnAddress :
    ({ State.reset with sp := 15 } : State).sp.val < 16 ∧ ¬ ({ State.reset with sp := 16 } : State).sp.val < 16 := by
  decide
theorem witness_ReturnPopsTheReturnAddress : 0 < edge.sp.val ∧ ¬ 0 < State.reset.sp.val := by decide
theorem witness_ReturnUndoesCall :
    let s : State := { State.reset with sp := 15 }
    s.sp.val < 16 ∧ ∃ t, exec (.op2NNN 0x300) s = .next t ∧ t.stack = t.stack ∧ t.sp = 16 :=
  ⟨by decide, _, rfl, rfl, rfl⟩
theorem witness_ByteComparisonsSkip :
    ((withV [(3, 0x2A)]).reg 3).toNat = (0x2A : Byte).toNat ∧
      ((withV [(3, 0x2A)]).reg 3).toNat ≠ (0x2B : Byte).toNat := by decide
theorem witness_RegisterComparisonsSkip :
    ((withV [(1, 7), (2, 7)]).reg 1).toNat = ((withV [(1, 7), (2, 7)]).reg 2).toNat ∧
      ((withV [(1, 7), (2, 8)]).reg 1).toNat ≠ ((withV [(1, 7), (2, 8)]).reg 2).toNat := by decide
theorem witness_arithmetic_with_the_flag_kept :
    (0xE : RegNum) ≠ 0xF ∧ (1 : Nat) + 255 > 255 ∧ ¬ (0 : Nat) + 255 > 255 ∧ ¬ (16 : Nat) > 16 := by decide
theorem witness_GlyphAddressIsComputed :
    Config.Font.wellFormed { Config.defaultFont with base := 432 } = true := by decide
theorem witness_DecimalDigitsAreStored :
    State.reset.memory.wf = true ∧ ¬ ({ State.reset with index := 4093 } : State).index.toNat + 2 > 4095 ∧
      ({ State.reset with index := 4094 } : State).index.toNat + 2 > 4095 := by decide
theorem witness_RegistersAreStored :
    State.reset.memory.wf = true ∧
      ¬ ({ State.reset with index := 4080 } : State).index.toNat + (0xF : RegNum).toNat > 4095 ∧
      ({ State.reset with index := 4081 } : State).index.toNat + (0xF : RegNum).toNat > 4095 := by decide
theorem witness_RegistersAreLoaded :
    ¬ ({ State.reset with index := 4095 } : State).index.toNat + (0x0 : RegNum).toNat > 4095 ∧
      ({ State.reset with index := 0xFFFF } : State).index.toNat + (0x1 : RegNum).toNat > 4095 := by decide
theorem witness_LoadUndoesStore :
    let s : State := { withV [(0, 1)] with index := 4080 }
    s.memory.wf = true ∧ s.index.toNat + (0xF : RegNum).toNat ≤ 4095 ∧
      ∃ t, exec (.opFX55 0xF) s = .next t ∧ t.index = s.index := ⟨by decide, by decide, _, rfl, rfl⟩

/-- The three clauses of DXYN, where they meet: memory first, then the grid, then a draw at each corner. -/
theorem witness_DrawSpriteXorsThePixels :
    let idx (n : Nat) : State := { withV [(1, 57)] with index := BitVec.ofNat 16 n }
    ((0x2 : Nibble).toNat > 0 ∧ (idx 4095).index.toNat + (0x2 : Nibble).toNat - 1 > 4095) ∧
    (¬ ((0x1 : Nibble).toNat > 0 ∧ (idx 4095).index.toNat + (0x1 : Nibble).toNat - 1 > 4095) ∧
      (0x1 : Nibble).toNat > 0 ∧ ((idx 4095).reg 1).toNat % 64 + 7 > 63) ∧
    (¬ ((0x0 : Nibble).toNat > 0)) ∧
    ((withV [(1, 56), (2, 31)]).reg 1).toNat % 64 + 7 ≤ 63 ∧
    ((withV [(1, 56), (2, 31)]).reg 2).toNat % 64 + (0x1 : Nibble).toNat - 1 ≤ 31 ∧
    ((withV [(2, 31)]).reg 2).toNat % 64 + (0x2 : Nibble).toNat - 1 > 31 := by decide
theorem witness_DrawTwiceRestoresTheScreen :
    let s := State.bytesAt { withV [(1, 56), (2, 31)] with index := 0x300 } 0x300 [0xFF]
    s.fault = .none ∧ (0x1 : RegNum) ≠ 0xF ∧ (0x2 : RegNum) ≠ 0xF ∧
      ∃ t, exec (.opDXYN 0x1 0x2 0x1) s = .next t ∧ t.fault = .none :=
  ⟨by decide, by decide, by decide, _, rfl, by decide⟩
theorem witness_RowModulusIsHarmless :
    let s := withV [(2, 95)]
    s.fault = .none ∧ (∃ t, exec (.opDXYN 0x1 0x2 0x1) s = .next t ∧ t.fault = .none) ∧ (0x1 : Nibble) ≠ 0 :=
  ⟨by decide, ⟨_, rfl, by decide⟩, by decide⟩
theorem witness_KeyTestsSkip :
    ((withV [(5, 16)]).reg 5).toNat > 15 ∧ ¬ ((withV [(5, 15)]).reg 5).toNat > 15 ∧
      key { State.reset with keypad := keysDown [15] } 15 = true ∧ key State.reset 15 = false := by decide
theorem witness_KeyWaitTakesTheLeastKey :
    (∀ k, key State.reset k = false) ∧
      let s : State := { State.reset with keypad := keysDown [15] }
      key s 15 = true ∧ ∀ j, j < 15 → key s j = false := by
  refine ⟨fun k => ?_, by decide, by decide⟩
  unfold key
  split
  · simp [State.reset]
  · rfl

end Sys2Proof.Tests
end

section
/-! What one instruction can do, said once: `Effect s i t` lists the next states `exec i s` can answer, sorted by
the piece of state they write (R20), and `exec_effect` ties it to `exec`. The facts about single fields below it
are all read off that list. -/

namespace Sys2Proof.Machine

open Sys2Proof.Claims

/-! ### Raising -/

theorem Memory.ne_none_of_load_error {m : Memory} {a n : Nat} {k : FaultKind} (h : m.load a n = .error k) :
    k ≠ .none := by
  rcases m.load_cases a n with ⟨_, he⟩ | ⟨_, he⟩ <;> cases he.symm.trans h
  decide

theorem Memory.ne_none_of_store_error {m : Memory} {a : Nat} {bs : List Byte} {k : FaultKind}
    (h : m.store a bs = .error k) : k ≠ .none := by
  rcases m.store_cases a bs with ⟨_, he⟩ | ⟨_, he⟩ <;> cases he.symm.trans h
  decide

theorem State.ne_none_of_keyPressed_error {s : State} {b : Byte} {k : FaultKind}
    (h : s.keyPressed b = .error k) : k ≠ .none := by
  rcases s.keyPressed_cases b with ⟨_, he⟩ | ⟨_, he⟩ <;> cases he.symm.trans h
  decide

/-- All DXYN can answer (R202, R244). -/
theorem execDXYN_cases (x y : RegNum) (n : Nibble) (s : State) :
    (∃ k, k ≠ .none ∧ execDXYN x y n s = .next (s.raiseFault k)) ∨
      execDXYN x y n s = .next (s.advance.drawSprite x y (s.memory.bytes s.dataAddress n.toNat)) := by
  unfold execDXYN
  rcases s.memory.load_cases s.dataAddress n.toNat with ⟨_, he⟩ | ⟨_, he⟩ <;> rw [he]
  · by_cases hg : leavesGrid (s.drawRow y) (s.drawColumn x) n.toNat = true
    · exact .inl ⟨.drawOob, by decide, by simp only [hg, if_true, commit]⟩
    · exact .inr (by simp only [hg, if_false, commit, Bool.false_eq_true])
  · exact .inl ⟨.memReadOob, by decide, rfl⟩

/-! ### The return stack -/

/-- What 00EE leaves when an entry is live (R121). -/
def State.returned (s : State) : State :=
  { s with
    pc := s.stack[s.sp.val - 1]'(by have := s.sp.isLt; omega)
    sp := ⟨s.sp.val - 1, by have := s.sp.isLt; omega⟩ }

/-- What 2NNN leaves when a slot is free (R123). -/
def State.called (s : State) (nnn : Addr12) (h : s.sp.val < 16) : State :=
  { s with
    pc := addressOperand nnn
    stack := s.stack.set s.sp.val (s.pc + 2) h
    sp := ⟨s.sp.val + 1, Nat.succ_lt_succ h⟩ }

theorem exec00EE_of_pos {s : State} (h : 0 < s.sp.val) : exec .op00EE s = .next s.returned := by
  change exec00EE s = _
  rw [exec00EE, State.pop, dif_pos (show 0 < s.advance.sp.val from h)]
  rfl

theorem exec00EE_of_not_pos {s : State} (h : ¬ 0 < s.sp.val) :
    exec .op00EE s = .next (s.raiseFault .stackUnderflow) := by
  change exec00EE s = _
  rw [exec00EE, State.pop, dif_neg (show ¬ 0 < s.advance.sp.val from h)]
  rfl

theorem exec2NNN_of_lt {s : State} (nnn : Addr12) (h : s.sp.val < 16) :
    exec (.op2NNN nnn) s = .next (s.called nnn h) := by
  change exec2NNN nnn s = _
  rw [exec2NNN, State.push, dif_pos (show s.advance.sp.val < 16 from h)]
  rfl

theorem exec2NNN_of_not_lt {s : State} (nnn : Addr12) (h : ¬ s.sp.val < 16) :
    exec (.op2NNN nnn) s = .next (s.raiseFault .stackOverflow) := by
  change exec2NNN nnn s = _
  rw [exec2NNN, State.push, dif_neg (show ¬ s.advance.sp.val < 16 from h)]
  rfl

/-! ### The effects -/

/-- The values an instruction that writes no other field can give `pc` (R130). -/
inductive PcMove (s : State) : Word → Prop
  /-- FX0A waits. -/
  | stay : PcMove s s.pc
  | next : PcMove s (s.pc + 2)
  | skip : PcMove s (s.pc + 2 + 2)
  | jump (nnn : Addr12) : PcMove s (addressOperand nnn)
  | offset (b : Byte) (nnn : Addr12) : PcMove s (b.setWidth 16 + addressOperand nnn)

/-- `Effect s i t`: the instruction `i` may take the state `s` to `t`. Each write of a field other
than `pc` and `fault` names the instructions that do it; a value written to a register, to `index` or to a pixel
is left open, since neither the frames nor the invariant rest on it. -/
inductive Effect (s : State) : Instr → State → Prop
  | raised (i : Instr) {k : FaultKind} (h : k ≠ .none) : Effect s i (s.raiseFault k)
  | moved (i : Instr) {w : Word} (h : PcMove s w) : Effect s i (s.setPc w)
  | returned (h : 0 < s.sp.val) : Effect s .op00EE s.returned
  | called (nnn : Addr12) (h : s.sp.val < 16) : Effect s (.op2NNN nnn) (s.called nnn h)
  | wroteReg {i : Instr} {x : RegNum} (b : Byte) (hx : mayWrite i x = true) :
      Effect s i (s.advance.setReg x b)
  | wroteFlagThenReg {i : Instr} {x : RegNum} (flag b : Byte) (hx : mayWrite i x = true)
      (hf : mayWrite i vf = true) : Effect s i (s.advance.setFlagThenReg x flag b)
  | drewRandom (x : RegNum) (kk b : Byte) : Effect s (.opCXKK x kk) (s.advance.drawn.setReg x b)
  | loadedRegs (x : RegNum) {bs : List Byte} (h : bs.length = blockLength x) :
      Effect s (.opFX65 x) { s.advance with v := writeRegs s.v 0 bs }
  | wroteIndex {i : Instr} (w : Word) (h : (∃ nnn, i = .opANNN nnn) ∨ ∃ x, i = .opFX1E x ∨ i = .opFX29 x) :
      Effect s i (s.advance.setIndex w)
  | stored {i : Instr} {bs : List Byte} {m : Memory} (h : ∃ x, i = .opFX33 x ∨ i = .opFX55 x)
      (hm : s.memory.store s.dataAddress bs = .ok m) : Effect s i (s.advance.setMemory m)
  | wroteDelayTimer (x : RegNum) : Effect s (.opFX15 x) (s.advance.setDelayTimer (s.reg x))
  | wroteSoundTimer (x : RegNum) : Effect s (.opFX18 x) (s.advance.setSoundTimer (s.reg x))
  | cleared : Effect s .op00E0 (s.advance.setFb Framebuffer.dark)
  | drewSprite (x y : RegNum) (n : Nibble) (sprite : List Byte) :
      Effect s (.opDXYN x y n) (s.advance.drawSprite x y sprite)

/-- The effect of a skip in the advanced state, taken or not. -/
theorem Effect.skipped (s : State) (i : Instr) (c : Bool) : Effect s i (s.advance.skipIf c) := by
  cases c with
  | false => exact .moved i .next
  | true => exact .moved i .skip

/-- The effect of an instruction that may raise is one of those of its two outcomes. -/
theorem Effect.of_commit {α : Type} {s : State} {i : Instr} {f : α → State} {e : Except FaultKind α}
    (hraise : ∀ k, e = .error k → k ≠ .none) (hok : ∀ a, e = .ok a → Effect s i (f a)) :
    ∃ t, commit s (e.map f) = .next t ∧ Effect s i t := by
  cases e with
  | ok a => exact ⟨_, rfl, hok a rfl⟩
  | error k => exact ⟨_, rfl, .raised i (hraise k rfl)⟩

/-- Every instruction answers a next state, one that `Effect` lists. -/
theorem exec_effect (i : Instr) (s : State) : ∃ t, exec i s = .next t ∧ Effect s i t := by
  cases i with
  | op00E0 => exact ⟨_, rfl, .cleared⟩
  | op00EE =>
    by_cases h : 0 < s.sp.val
    · exact ⟨_, exec00EE_of_pos h, .returned h⟩
    · exact ⟨_, exec00EE_of_not_pos h, .raised _ (by decide)⟩
  | op1NNN nnn => exact ⟨_, rfl, .moved _ (.jump nnn)⟩
  | op2NNN nnn =>
    by_cases h : s.sp.val < 16
    · exact ⟨_, exec2NNN_of_lt nnn h, .called nnn h⟩
    · exact ⟨_, exec2NNN_of_not_lt nnn h, .raised _ (by decide)⟩
  | op3XKK | op4XKK | op5XY0 | op9XY0 => exact ⟨_, rfl, .skipped s _ _⟩
  | op6XKK | op7XKK | op8XY0 | op8XY1 | op8XY2 | op8XY3 | opFX07 =>
    exact ⟨_, rfl, .wroteReg _ (beq_self_eq_true _)⟩
  | op8XY4 | op8XY5 | op8XY6 | op8XY7 | op8XYE =>
    exact ⟨_, rfl, .wroteFlagThenReg _ _ (Bool.or_inl (beq_self_eq_true _)) (Bool.or_inr rfl)⟩
  | opANNN nnn => exact ⟨_, rfl, .wroteIndex _ (.inl ⟨nnn, rfl⟩)⟩
  | opBNNN nnn => exact ⟨_, rfl, .moved _ (.offset (s.reg 0) nnn)⟩
  | opCXKK x kk => exact ⟨_, rfl, .drewRandom x kk _⟩
  | opDXYN x y n =>
    rcases execDXYN_cases x y n s with ⟨k, hk, he⟩ | he
    · exact ⟨_, he, .raised _ hk⟩
    · exact ⟨_, he, .drewSprite x y n _⟩
  | opEX9E | opEXA1 =>
    exact Effect.of_commit (fun _ => State.ne_none_of_keyPressed_error) (fun _ _ => .skipped s _ _)
  | opFX0A x =>
    change ∃ t, execFX0A x s = .next t ∧ _
    unfold execFX0A
    cases s.firstPressedKey with
    | some k => exact ⟨_, rfl, .wroteReg _ (beq_self_eq_true _)⟩
    | none =>
      rw [show s.advance.pc - 2 = s.pc from BitVec.add_sub_cancel _ _]
      exact ⟨_, rfl, .moved _ .stay⟩
  | opFX15 x => exact ⟨_, rfl, .wroteDelayTimer x⟩
  | opFX18 x => exact ⟨_, rfl, .wroteSoundTimer x⟩
  | opFX1E x => exact ⟨_, rfl, .wroteIndex _ (.inr ⟨x, .inl rfl⟩)⟩
  | opFX29 x => exact ⟨_, rfl, .wroteIndex _ (.inr ⟨x, .inr rfl⟩)⟩
  | opFX33 x =>
    exact Effect.of_commit (fun _ => Memory.ne_none_of_store_error) (fun _ => .stored ⟨x, .inl rfl⟩)
  | opFX55 x =>
    exact Effect.of_commit (fun _ => Memory.ne_none_of_store_error) (fun _ => .stored ⟨x, .inr rfl⟩)
  | opFX65 x =>
    refine Effect.of_commit (fun _ => Memory.ne_none_of_load_error) (fun bs h => .loadedRegs x ?_)
    rcases s.memory.load_cases s.dataAddress (blockLength x) with ⟨_, he⟩ | ⟨_, he⟩ <;>
      cases he.symm.trans h
    exact Memory.length_bytes _ _ _
  | _ => exact ⟨_, rfl, .moved _ .next⟩

/-- What an instruction answers is one of its effects. -/
theorem Effect.of_exec {i : Instr} {s t : State} (h : exec i s = .next t) : Effect s i t := by
  obtain ⟨t', he, heff⟩ := exec_effect i s
  cases he.symm.trans h
  exact heff

/-! ### What an effect leaves unchanged, field by field -/

section
variable {i : Instr} {s t : State} (h : Effect s i t)
include h

theorem Effect.memory_eq : t.memory = s.memory ∨ ∃ x, i = .opFX33 x ∨ i = .opFX55 x := by
  cases h with
  | stored hi => exact .inr hi
  | _ => exact .inl rfl

theorem Effect.v_eq : t.v = s.v ∨ ∃ r, mayWrite i r = true := by
  cases h with
  | wroteReg b hx => exact .inr ⟨_, hx⟩
  | wroteFlagThenReg flag b hx hf => exact .inr ⟨_, hx⟩
  | drewRandom x => exact .inr ⟨x, beq_self_eq_true x⟩
  | loadedRegs x => exact .inr ⟨x, decide_eq_true (Nat.le_refl _)⟩
  | drewSprite => exact .inr ⟨0xF, rfl⟩
  | _ => exact .inl rfl

theorem Effect.index_eq :
    t.index = s.index ∨ (∃ nnn, i = .opANNN nnn) ∨ ∃ x, i = .opFX1E x ∨ i = .opFX29 x := by
  cases h with
  | wroteIndex w hi => exact .inr hi
  | _ => exact .inl rfl

theorem Effect.stack_eq : t.stack = s.stack ∨ ∃ nnn, i = .op2NNN nnn := by
  cases h with
  | called nnn => exact .inr ⟨nnn, rfl⟩
  | _ => exact .inl rfl

theorem Effect.sp_eq : t.sp = s.sp ∨ i = .op00EE ∨ ∃ nnn, i = .op2NNN nnn := by
  cases h with
  | returned => exact .inr (.inl rfl)
  | called nnn => exact .inr (.inr ⟨nnn, rfl⟩)
  | _ => exact .inl rfl

theorem Effect.delayTimer_eq : t.delayTimer = s.delayTimer ∨ ∃ x, i = .opFX15 x := by
  cases h with
  | wroteDelayTimer x => exact .inr ⟨x, rfl⟩
  | _ => exact .inl rfl

theorem Effect.soundTimer_eq : t.soundTimer = s.soundTimer ∨ ∃ x, i = .opFX18 x := by
  cases h with
  | wroteSoundTimer x => exact .inr ⟨x, rfl⟩
  | _ => exact .inl rfl

theorem Effect.fb_eq : t.fb = s.fb ∨ i = .op00E0 ∨ ∃ x y n, i = .opDXYN x y n := by
  cases h with
  | cleared => exact .inr (.inl rfl)
  | drewSprite x y n => exact .inr (.inr ⟨x, y, n, rfl⟩)
  | _ => exact .inl rfl

theorem Effect.randomSource_eq : t.randomSource = s.randomSource ∨ ∃ x kk, i = .opCXKK x kk := by
  cases h with
  | drewRandom x kk => exact .inr ⟨x, kk, rfl⟩
  | _ => exact .inl rfl

theorem Effect.keypad_eq : t.keypad = s.keypad := by cases h <;> rfl

theorem Effect.opcode_eq : t.opcode = s.opcode := by cases h <;> rfl

theorem Effect.keypadInput_eq : t.keypadInput = s.keypadInput := by cases h <;> rfl

theorem Effect.font_eq : t.memory.font = s.memory.font := by
  cases h with
  | @stored _ bs m _ hm =>
    rcases s.memory.store_cases s.dataAddress bs with ⟨_, he⟩ | ⟨_, he⟩ <;> cases he.symm.trans hm
    exact Memory.putBytes_font _ _ _
  | _ => rfl

theorem Effect.memory_wf (hwf : s.memory.wf = true) : t.memory.wf = true := by
  cases h with
  | stored _ hm => exact (Memory.wf_store hwf hm).1
  | _ => exact hwf

/-- A register that the instruction may not write is unchanged (R20, R22). -/
theorem Effect.reg_eq {r : RegNum} (hr : mayWrite i r = false) : t.reg r = s.reg r := by
  have hne : ∀ {x}, mayWrite i x = true → r ≠ x := fun hx e => by simp [← e, hr] at hx
  cases h with
  | wroteReg b hx => exact s.advance.reg_setReg_ne b (hne hx)
  | wroteFlagThenReg flag b hx hf =>
    rw [State.reg_setFlagThenReg, if_neg (hne hx), if_neg (hne hf), State.reg_advance]
  | drewRandom x kk b => exact s.advance.drawn.reg_setReg_ne b (hne (beq_self_eq_true x))
  | drewSprite x y n sprite => exact State.reg_setReg_ne _ _ (hne rfl)
  | loadedRegs x hbs =>
    have hx : ¬ r.toNat < blockLength x := fun hlt => of_decide_eq_false hr (Nat.le_of_lt_succ hlt)
    simp only [State.reg, getElem_writeRegs, hbs]
    exact dif_neg fun hlt => hx hlt.2
  | _ => rfl

end

end Sys2Proof.Machine
end

section
/-! Which instruction writes which field (O22, O26), and what a Cycle and a step leave in `opcode` (O17). -/

namespace Sys2Proof.Machine

open Sys2Proof.Claims

/-- Settles O22: each clause is the lemma about that field of an effect. -/
theorem onlyNamedInstructionsWriteEachField : Obligations.OnlyNamedInstructionsWriteEachField := by
  intro i s t hx
  have h := Effect.of_exec hx
  exact ⟨h.memory_eq.resolve_left, h.v_eq.resolve_left, h.index_eq.resolve_left, h.stack_eq.resolve_left,
    h.sp_eq.resolve_left, h.delayTimer_eq.resolve_left, h.soundTimer_eq.resolve_left, h.fb_eq.resolve_left,
    h.randomSource_eq.resolve_left, h.keypad_eq, h.opcode_eq, h.keypadInput_eq, h.font_eq⟩

/-! ### The flag -/

/-- The values a flag in VF can have (R22). -/
def IsFlag (b : Byte) : Prop := b = 0 ∨ b = 1

theorem isFlag_flagByte (c : Bool) : IsFlag (flagByte c) := by
  cases c with
  | false => exact .inl rfl
  | true => exact .inr rfl

/-- The result is written after the flag, but elsewhere, so the flag stays in VF (R150). -/
theorem isFlag_setFlagThenReg (s : State) {x : RegNum} (hx : (x != 0xF) = true) (c : Bool) (b : Byte) :
    IsFlag ((s.setFlagThenReg x (flagByte c) b).reg 0xF) := by
  have hne : (0xF : RegNum) ≠ x := fun e => by simp [← e] at hx
  rw [State.reg_setFlagThenReg, if_neg hne, if_pos (show (0xF : RegNum) = vf from rfl)]
  exact isFlag_flagByte c

theorem isFlag_execDXYN {s t : State} {x y : RegNum} {n : Nibble} (h : execDXYN x y n s = .next t)
    (ht : t.fault = .none) : IsFlag (t.reg 0xF) := by
  rcases execDXYN_cases x y n s with ⟨k, hk, he⟩ | he <;> cases he.symm.trans h
  · exact absurd ht hk
  · exact (State.reg_setReg_same _ vf _).symm ▸ isFlag_flagByte _

/-- An instruction that leaves a flag in VF and does not fault leaves 0 or 1 there. -/
theorem isFlag_of_leavesFlag {i : Instr} {s t : State} (hx : exec i s = .next t) (ht : t.fault = .none)
    (hf : leavesFlag i = true) : IsFlag (t.reg 0xF) := by
  cases i with
  | op8XY4 | op8XY5 | op8XY6 | op8XY7 | op8XYE =>
    cases hx
    exact isFlag_setFlagThenReg _ hf _ _
  | opDXYN => exact isFlag_execDXYN hx ht
  | _ => cases hf

/-- Settles O26, from the registers an effect leaves alone and the flag the six flag writers leave. -/
theorem registersAndFlagWrittenOnlyAsNamed : Obligations.RegistersAndFlagWrittenOnlyAsNamed :=
  fun _ _ _ hx => ⟨fun _ => (Effect.of_exec hx).reg_eq, fun _ => isFlag_of_leavesFlag hx⟩

/-! ### The Cycle -/

/-- Where both bytes of the instruction exist the fetch reads `wordAt` (R62). -/
theorem fetch_eq_ok_wordAt {s : State} (h : s.pc.toNat ≤ 4094) :
    s.memory.fetch s.pc.toNat = .ok (wordAt s) := by
  have h1 : s.pc.toNat + 1 < Config.memSize := Nat.lt_succ_of_le (Nat.succ_le_succ h)
  rw [wordAt, Memory.read_of_lt _ (Nat.lt_of_succ_lt h1), Memory.read_of_lt _ h1]
  exact if_pos h1

theorem fetch_eq_error {s : State} (h : 4094 < s.pc.toNat) : s.memory.fetch s.pc.toNat = .error .fetchOob :=
  if_neg fun (h1 : s.pc.toNat + 1 < 4096) => by omega

@[simp] theorem wordAt_presentKeys (s : State) : wordAt s.presentKeys = wordAt s := by simp [wordAt]

/-- All a Cycle can answer, with the executed word as claims read it. -/
inductive CycleTo (s : State) : State → Prop
  | halted (hf : s.fault ≠ .none) : CycleTo s s
  | fetchFault (hf : s.fault = .none) (hp : 4094 < s.pc.toNat) : CycleTo s (s.raiseFault .fetchOob)
  | executed (hf : s.fault = .none) (hp : s.pc.toNat ≤ 4094) {t : State}
      (hx : exec (decodeWord (wordAt s)) s = .next t) : CycleTo s (t.finish (wordAt s))

theorem CycleTo.cycle_eq {s t : State} (h : CycleTo s t) : cycle s = .next t := by
  cases h with
  | halted hf => exact if_neg hf
  | fetchFault hf hp => simp only [cycle, hf, if_true, fetch_eq_error hp, commit]
  | executed hf hp hx => simp only [cycle, hf, if_true, fetch_eq_ok_wordAt hp, hx]

theorem exists_cycleTo (s : State) : ∃ t, CycleTo s t := by
  by_cases hf : s.fault = .none
  · by_cases hp : s.pc.toNat ≤ 4094
    · obtain ⟨t, hx, _⟩ := exec_effect (decodeWord (wordAt s)) s
      exact ⟨_, .executed hf hp hx⟩
    · exact ⟨_, .fetchFault hf (Nat.lt_of_not_le hp)⟩
  · exact ⟨_, .halted hf⟩

/-- What a step answers is one of the Cycle's answers after the host's keypad write. -/
theorem CycleTo.of_step {s t : State} (h : step s = .next t) : CycleTo s.presentKeys t := by
  obtain ⟨t', h'⟩ := exists_cycleTo s.presentKeys
  cases h'.cycle_eq.symm.trans h
  exact h'

/-! ### The end of a Cycle -/

section
variable (t : State) (w : Word)

@[simp] theorem State.finish_fault : (t.finish w).fault = t.fault := by unfold State.finish; split <;> rfl
@[simp] theorem State.finish_memory : (t.finish w).memory = t.memory := by unfold State.finish; split <;> rfl
@[simp] theorem State.finish_pc : (t.finish w).pc = t.pc := by unfold State.finish; split <;> rfl
@[simp] theorem State.finish_stack : (t.finish w).stack = t.stack := by unfold State.finish; split <;> rfl
@[simp] theorem State.finish_sp : (t.finish w).sp = t.sp := by unfold State.finish; split <;> rfl
@[simp] theorem State.finish_opcode : (t.finish w).opcode = if t.fault = .none then w else t.opcode := by
  unfold State.finish; split <;> rfl

end

/-- Settles O17: no instruction writes `opcode`, and the end of the Cycle latches the word unless a fault is
set. -/
theorem opcodeLatchHoldsTheFetchedWord : Obligations.OpcodeLatchHoldsTheFetchedWord := by
  intro s t h
  cases CycleTo.of_step h with
  | halted hf => rw [if_neg hf, State.presentKeys_opcode]
  | fetchFault => exact s.presentKeys_opcode
  | executed hf hp hx =>
    rw [State.finish_opcode, State.finish_fault, (Effect.of_exec hx).opcode_eq, wordAt_presentKeys,
      State.presentKeys_opcode]

end Sys2Proof.Machine
end

section
/-! The invariant of the machine holds at Reset (O19) and every step keeps it (O20). -/

namespace Sys2Proof.Machine

open Sys2Proof.Claims

/-- Settles O19: memory lists no cell, the default font lies below 0x200 and the stack is empty. -/
theorem invariantHoldsAtReset : Obligations.InvariantHoldsAtReset where
  memoryWf := State.reset_memory_wf
  fontWf := by decide
  pcBounded := by decide
  stackBounded := fun k _ hk => absurd hk k.not_lt_zero

/-- The invariant speaks of no field but these four. -/
theorem State.Inv.congr {s t : State} (h : s.Inv) (hm : t.memory = s.memory) (hpc : t.pc = s.pc)
    (hst : t.stack = s.stack) (hsp : t.sp = s.sp) : t.Inv where
  memoryWf := hm ▸ h.memoryWf
  fontWf := hm ▸ h.fontWf
  pcBounded := hpc ▸ h.pcBounded
  stackBounded := by
    unfold State.liveStackBounded
    rw [hst, hsp]
    exact h.stackBounded

/-- An instruction that was fetched moves `pc` past no bound: 4094 + 4, the longest NNN, or 255 + 4095 (R131). -/
theorem PcMove.le {s : State} {w : Word} (h : PcMove s w) (hp : s.pc.toNat ≤ 4094) : w.toNat ≤ 4350 := by
  cases h with
  | stay => omega
  | next | skip => bv_omega
  | jump nnn => simp only [addressOperand]; bv_omega
  | offset b nnn => simp only [addressOperand]; bv_omega

theorem Effect.pc_le {i : Instr} {s t : State} (h : Effect s i t) (hs : s.Inv) (hp : s.pc.toNat ≤ 4094) :
    t.pc.toNat ≤ 4350 := by
  cases h with
  | raised => exact hs.pcBounded
  | moved _ hw => exact hw.le hp
  | called nnn => exact (PcMove.jump (s := s) nnn).le hp
  | returned h => exact Nat.le_trans (hs.stackBounded _ _ (Nat.sub_one_lt_of_lt h)) (by decide)
  | _ => exact PcMove.next.le hp

/-- A call pushes an address of at most 4096 and a return makes no entry live (R25). -/
theorem Effect.liveStackBounded {i : Instr} {s t : State} (h : Effect s i t) (hs : s.Inv)
    (hp : s.pc.toNat ≤ 4094) : t.liveStackBounded := by
  cases h with
  | returned => exact fun k hk hlt => hs.stackBounded k hk (Nat.lt_of_lt_of_le hlt (Nat.sub_le _ _))
  | called nnn hsp =>
    intro k hk (hlt : k < s.sp.val + 1)
    simp only [State.called, Vector.getElem_set]
    split
    · bv_omega
    · exact hs.stackBounded k hk (by omega)
  | _ => exact hs.stackBounded

theorem Effect.keepsInv {i : Instr} {s t : State} (h : Effect s i t) (hs : s.Inv) (hp : s.pc.toNat ≤ 4094) :
    t.Inv where
  memoryWf := h.memory_wf hs.memoryWf
  fontWf := h.font_eq ▸ hs.fontWf
  pcBounded := h.pc_le hs hp
  stackBounded := h.liveStackBounded hs hp

theorem CycleTo.keepsInv {s t : State} (h : CycleTo s t) (hs : s.Inv) : t.Inv := by
  cases h with
  | halted => exact hs
  | fetchFault => exact hs.congr rfl rfl rfl rfl
  | executed hf hp hx => exact ((Effect.of_exec hx).keepsInv hs hp).congr (by simp) (by simp) (by simp) (by simp)

/-- Settles O20: the keypad write, the effect of the instruction and the end of the Cycle each keep the
invariant. -/
theorem stepKeepsInvariant : Obligations.StepKeepsInvariant :=
  fun _ _ hs h => (CycleTo.of_step h).keepsInv (hs.congr (by simp) (by simp) (by simp) (by simp))

end Sys2Proof.Machine
end

section
/-! What no instruction, or only a named one, reads (O21, O23, O24). `State.remap` rewrites the four fields the
statements are about; `exec_remap` says that an instruction cannot tell, but for the few that read or write such
a field. -/

namespace Sys2Proof.Machine

open Sys2Proof.Claims

/-- The stack, the keypad, the opcode latch and the sound timer rewritten. -/
def State.remap (st : Vector Word 16 → Vector Word 16) (kp : Keypad → Keypad) (op : Word → Word)
    (so : Byte → Byte) (s : State) : State :=
  { s with stack := st s.stack, keypad := kp s.keypad, opcode := op s.opcode, soundTimer := so s.soundTimer }

section
variable (st : Vector Word 16 → Vector Word 16) (kp : Keypad → Keypad) (op : Word → Word) (so : Byte → Byte)
variable (s : State)

theorem State.remap_skipIf (c : Bool) :
    (s.remap st kp op so).skipIf c = (s.skipIf c).remap st kp op so := by
  cases c <;> rfl

/-- An instruction that may raise commutes with the rewriting if its outcome without a fault does. -/
theorem commit_remap {α : Type} (e : Except FaultKind α) {f g : α → State}
    (h : ∀ a, f a = (g a).remap st kp op so) :
    commit (s.remap st kp op so) (e.map f) = mapNext (State.remap st kp op so) (commit s (e.map g)) := by
  cases e with
  | ok a => exact congrArg Host.Outcome.next (h a)
  | error k => rfl

theorem execDXYN_remap (x y : RegNum) (n : Nibble) :
    execDXYN x y n (s.remap st kp op so) = mapNext (State.remap st kp op so) (execDXYN x y n s) := by
  have hc : (s.remap st kp op so).drawColumn x = s.drawColumn x := rfl
  have hr : (s.remap st kp op so).drawRow y = s.drawRow y := rfl
  have hl : (s.remap st kp op so).memory.load (s.remap st kp op so).dataAddress n.toNat =
    s.memory.load s.dataAddress n.toNat := rfl
  unfold execDXYN
  rw [hl, hc, hr]
  cases s.memory.load s.dataAddress n.toNat with
  | error k => rfl
  | ok sprite => cases leavesGrid (s.drawRow y) (s.drawColumn x) n.toNat <;> rfl

/-- No instruction reads or writes the four fields, except that 00EE and 2NNN work on the stack, the key
instructions read the keypad and FX18 writes the sound timer (R20). -/
theorem exec_remap (i : Instr) (hst : i = .op00EE ∨ (∃ nnn, i = .op2NNN nnn) → st = id)
    (hkp : readsKeypad i = true → kp = id) (hso : (∃ x, i = .opFX18 x) → so = id) :
    exec i (s.remap st kp op so) = mapNext (State.remap st kp op so) (exec i s) := by
  cases i with
  | op00EE =>
    cases hst (.inl rfl)
    by_cases h : 0 < s.sp.val
    · rw [exec00EE_of_pos h, exec00EE_of_pos (s := s.remap id kp op so) h]
      rfl
    · rw [exec00EE_of_not_pos h, exec00EE_of_not_pos (s := s.remap id kp op so) h]
      rfl
  | op2NNN nnn =>
    cases hst (.inr ⟨nnn, rfl⟩)
    by_cases h : s.sp.val < 16
    · rw [exec2NNN_of_lt nnn h, exec2NNN_of_lt (s := s.remap id kp op so) nnn h]
      rfl
    · rw [exec2NNN_of_not_lt nnn h, exec2NNN_of_not_lt (s := s.remap id kp op so) nnn h]
      rfl
  | op3XKK | op4XKK | op5XY0 | op9XY0 =>
    exact congrArg Host.Outcome.next (State.remap_skipIf st kp op so s.advance _)
  | opDXYN x y n => exact execDXYN_remap st kp op so s x y n
  | opEX9E x =>
    cases hkp rfl
    exact commit_remap st id op so s _ fun c => State.remap_skipIf st id op so s.advance c
  | opEXA1 x =>
    cases hkp rfl
    exact commit_remap st id op so s _ fun c => State.remap_skipIf st id op so s.advance !c
  | opFX0A x =>
    cases hkp rfl
    have hk : (s.remap st id op so).firstPressedKey = s.firstPressedKey := rfl
    change execFX0A x (s.remap st id op so) = mapNext _ (execFX0A x s)
    rw [execFX0A, execFX0A, hk]
    cases s.firstPressedKey <;> rfl
  | opFX18 x =>
    cases hso ⟨x, rfl⟩
    rfl
  | opFX33 x => exact commit_remap st kp op so s _ fun _ => rfl
  | opFX55 x => exact commit_remap st kp op so s _ fun _ => rfl
  | opFX65 x => exact commit_remap st kp op so s _ fun _ => rfl
  | _ => rfl

end

/-- Settles O23: writing the keypad rewrites that field alone. -/
theorem keypadIsReadByKeyInstructionsOnly : Obligations.KeypadIsReadByKeyInstructionsOnly :=
  fun i s keys hi =>
    exec_remap id (fun _ => keys) id id s i (fun _ => rfl) (fun h => by simp [hi] at h) (fun _ => rfl)

/-- Settles O24: `opcode` and `soundTimer` are rewritten, and FX18 overwrites the one the statement excepts. -/
theorem opcodeAndSoundTimerAreNeverRead : Obligations.OpcodeAndSoundTimerAreNeverRead := by
  intro i s w b
  cases i with
  | opFX18 x => rfl
  | _ => exact exec_remap id id (fun _ => w) (fun _ => b) s _ (fun _ => rfl) (fun _ => rfl) nofun

/-! ### Dead stack entries -/

/-- The same state with other stack entries. -/
def State.withStack (s : State) (st : Vector Word 16) : State := { s with stack := st }

/-- The live entries of the stack are those of `st` (R25). -/
def State.LiveIn (s : State) (st : Vector Word 16) : Prop :=
  ∀ k, (h : k < 16) → k < s.sp.val → st[k]'h = s.stack[k]'h

theorem agreeButDeadEntries_iff {s u : State} :
    AgreeButDeadEntries s u ↔ ∃ st, s.LiveIn st ∧ u = s.withStack st := by
  constructor
  · rintro ⟨hu, hl⟩
    exact ⟨u.stack, hl, hu⟩
  · rintro ⟨st, hl, rfl⟩
    exact ⟨rfl, hl⟩

theorem State.LiveIn.congr {s t : State} {st : Vector Word 16} (h : s.LiveIn st) (hst : t.stack = s.stack)
    (hsp : t.sp = s.sp) : t.LiveIn st := by
  unfold State.LiveIn
  rw [hst, hsp]
  exact h

/-- A return takes a live entry. -/
theorem State.LiveIn.returned_withStack {s : State} {st : Vector Word 16} (h : s.LiveIn st)
    (h0 : 0 < s.sp.val) : (s.withStack st).returned = s.returned.withStack st := by
  simp only [State.returned, State.withStack, h _ _ (Nat.sub_one_lt_of_lt h0)]

/-- A call makes its own entry live and no other. -/
theorem State.LiveIn.called {s : State} {st : Vector Word 16} (h : s.LiveIn st) (nnn : Addr12)
    (h16 : s.sp.val < 16) : (s.called nnn h16).LiveIn (st.set s.sp.val (s.pc + 2) h16) := by
  intro k hk (hlt : k < s.sp.val + 1)
  simp only [State.called, Vector.getElem_set]
  split
  · rfl
  · exact h k hk (by omega)

/-- No instruction reads a dead entry. -/
theorem exec_withStack {i : Instr} {s t : State} {st : Vector Word 16} (hl : s.LiveIn st)
    (hx : exec i s = .next t) :
    ∃ st', t.LiveIn st' ∧ exec i (s.withStack st) = .next (t.withStack st') := by
  by_cases hi : i = .op00EE ∨ ∃ nnn, i = .op2NNN nnn
  · rcases hi with rfl | ⟨nnn, rfl⟩
    · by_cases h : 0 < s.sp.val
      · cases (exec00EE_of_pos h).symm.trans hx
        refine ⟨st, fun k hk hlt => hl k hk (Nat.lt_of_lt_of_le hlt (Nat.sub_le _ _)), ?_⟩
        rw [exec00EE_of_pos (s := s.withStack st) h, hl.returned_withStack h]
      · cases (exec00EE_of_not_pos h).symm.trans hx
        exact ⟨st, hl, exec00EE_of_not_pos (s := s.withStack st) h⟩
    · by_cases h : s.sp.val < 16
      · cases (exec2NNN_of_lt nnn h).symm.trans hx
        exact ⟨_, hl.called nnn h, exec2NNN_of_lt (s := s.withStack st) nnn h⟩
      · cases (exec2NNN_of_not_lt nnn h).symm.trans hx
        exact ⟨st, hl, exec2NNN_of_not_lt (s := s.withStack st) nnn h⟩
  · obtain ⟨hret, hcall⟩ := not_or.1 hi
    have heff := Effect.of_exec hx
    have hframe := exec_remap (fun _ => st) id id id s i (fun h => absurd h hi) (fun _ => rfl) (fun _ => rfl)
    refine ⟨st, hl.congr (heff.stack_eq.resolve_right hcall) (heff.sp_eq.resolve_right hi), ?_⟩
    exact hframe.trans (congrArg (mapNext _) hx)

theorem State.finish_withStack (t : State) (st : Vector Word 16) (w : Word) :
    (t.withStack st).finish w = (t.finish w).withStack st := by
  by_cases h : t.fault = .none
  · rw [State.finish_of_none w h, State.finish_of_none (t := t.withStack st) w h]
    rfl
  · rw [State.finish_of_fault w h, State.finish_of_fault (t := t.withStack st) w h]

theorem State.presentKeys_withStack (s : State) (st : Vector Word 16) :
    (s.withStack st).presentKeys = s.presentKeys.withStack st := by
  cases h : s.keypadInput with
  | nil => rw [s.presentKeys_nil h, (s.withStack st).presentKeys_nil h]
  | cons k ks =>
    rw [s.presentKeys_cons h, (s.withStack st).presentKeys_cons h]
    rfl

/-- No Cycle reads a dead entry: fetch reads memory, and the rest is `exec_withStack`. -/
theorem CycleTo.withStack {s t : State} {st : Vector Word 16} (h : CycleTo s t) (hl : s.LiveIn st) :
    ∃ st', t.LiveIn st' ∧ CycleTo (s.withStack st) (t.withStack st') := by
  cases h with
  | halted hf => exact ⟨st, hl, .halted hf⟩
  | fetchFault hf hp => exact ⟨st, hl, .fetchFault (s := s.withStack st) hf hp⟩
  | executed hf hp hx =>
    obtain ⟨st', hl', hx'⟩ := exec_withStack hl hx
    refine ⟨st', hl'.congr (by simp) (by simp), ?_⟩
    rw [← State.finish_withStack]
    exact .executed (s := s.withStack st) hf hp hx'

/-- Settles O21: the dead entries can be replaced before the keypad write, the Cycle and after it. -/
theorem deadStackEntriesAreNeverRead : Obligations.DeadStackEntriesAreNeverRead := by
  intro s u t hsu h
  obtain ⟨st, hl, rfl⟩ := agreeButDeadEntries_iff.1 hsu
  obtain ⟨st', hl', hc⟩ := (CycleTo.of_step h).withStack (hl.congr (by simp) (by simp))
  rw [← State.presentKeys_withStack] at hc
  exact ⟨t.withStack st', hc.cycle_eq, agreeButDeadEntries_iff.2 ⟨st', hl', rfl⟩⟩

end Sys2Proof.Machine
end

section
/-! Canonical memories that read alike are equal data (O27). -/

namespace Sys2Proof.Machine

open Sys2Proof.Claims

theorem lookupCell_cons_same (a : Nat) (v : Byte) (cs : List Host.Cell) :
    lookupCell a ((a, v) :: cs) = some v := if_pos rfl

theorem lookupCell_cons_ne {a b : Nat} (h : b ≠ a) (v : Byte) (cs : List Host.Cell) :
    lookupCell b ((a, v) :: cs) = lookupCell b cs := if_neg h

/-- Canonical cells list nothing below their first address. -/
theorem lookupCell_cons_of_lt {d : Nat → Byte} {lo : Option Nat} {a b : Nat} {v : Byte} {cs : List Host.Cell}
    (h : cellsWf d lo ((a, v) :: cs) = true) (hb : b < a) : lookupCell b ((a, v) :: cs) = none := by
  obtain ⟨_, _, _, ht⟩ := cellsWf_cons.1 h
  rw [lookupCell_cons_ne (Nat.ne_of_lt hb), lookupCell_of_le ht (Nat.le_of_lt hb)]

/-- Canonical lists with the same cell for every address are the same list. -/
theorem cells_eq_of_lookupCell_eq {d : Nat → Byte} {lo lo' : Option Nat} {cs cs' : List Host.Cell}
    (h : cellsWf d lo cs = true) (h' : cellsWf d lo' cs' = true)
    (heq : ∀ a, lookupCell a cs = lookupCell a cs') : cs = cs' := by
  induction cs generalizing lo lo' cs' with
  | nil =>
    cases cs' with
    | nil => rfl
    | cons c' cs' => exact absurd (heq c'.1) (by rw [lookupCell_cons_same]; nofun)
  | cons c cs ih =>
    obtain ⟨a, v⟩ := c
    have ha := heq a
    rw [lookupCell_cons_same] at ha
    cases cs' with
    | nil => cases ha
    | cons c' cs' =>
      obtain ⟨b, w⟩ := c'
      have hb := heq b
      rw [lookupCell_cons_same] at hb
      rcases Nat.lt_trichotomy a b with hab | rfl | hab
      · rw [lookupCell_cons_of_lt h' hab] at ha
        cases ha
      · rw [lookupCell_cons_same] at ha
        cases ha
        obtain ⟨_, _, _, ht⟩ := cellsWf_cons.1 h
        obtain ⟨_, _, _, ht'⟩ := cellsWf_cons.1 h'
        rw [ih ht ht' fun e => ?_]
        by_cases he : e = a
        · rw [he, lookupCell_of_le ht (Nat.le_refl a), lookupCell_of_le ht' (Nat.le_refl a)]
        · simpa only [lookupCell_cons_ne he] using heq e
      · rw [lookupCell_cons_of_lt h hab] at hb
        cases hb

/-- A canonical memory lists an address exactly where it reads as something else than the unlisted value. -/
theorem Memory.lookupCell_eq {m : Memory} (h : m.wf = true) (a : Nat) :
    lookupCell a m.cells = (m.read a).filter (· ≠ m.unlisted a) := by
  cases hl : lookupCell a m.cells with
  | none => by_cases ha : a < Config.memSize <;> simp [Memory.read, Memory.byte, Option.filter, hl, ha]
  | some v =>
    obtain ⟨hne, ha⟩ := lookupCell_some h hl
    simp [Memory.read, Memory.byte, Option.filter, hl, ha, hne]

/-- Settles O27: the bytes determine which cell stands for each address, and the cells determine the list. -/
theorem canonicalMemoriesWithEqualBytesAreEqual : Obligations.CanonicalMemoriesWithEqualBytesAreEqual := by
  intro m m' h h' hfont hread
  have hu : m'.unlisted = m.unlisted := by
    funext a
    rw [Memory.unlisted, Memory.unlisted, hfont]
  have hcells : m.cells = m'.cells := by
    refine cells_eq_of_lookupCell_eq (d := m.unlisted) h (by rw [← hu]; exact h') fun a => ?_
    rw [m.lookupCell_eq h, m'.lookupCell_eq h', hread, hu]
  cases m
  cases m'
  cases hfont
  cases hcells
  rfl

end Sys2Proof.Machine
end

section
/-! What Reset leaves, from any state (O6) and in State.reset (O5). -/

namespace Sys2Proof.Machine

open Sys2Proof.Claims

theorem fontByteAt_glyph (f : Config.Font) {g j : Nat} (hg : g < f.glyphs.length) (hj : j < 5) :
    fontByteAt f (f.base + 5 * g + j) = (f.glyphs[g]'hg)[j]'hj := by
  have hd : (f.base + 5 * g + j - f.base) / 5 = g := by omega
  have hm : (f.base + 5 * g + j - f.base) % 5 = j := by omega
  have hb : ¬ f.base + 5 * g + j < f.base := by omega
  simp [fontByteAt, hb, hd, hm, hg]

theorem fontByteAt_outside (f : Config.Font) {a : Nat} (h : a < f.base ∨ f.base + 5 * f.glyphs.length ≤ a) :
    fontByteAt f a = 0 := by
  unfold fontByteAt
  by_cases hb : a < f.base
  · exact if_pos hb
  · have hg : f.glyphs.length ≤ (a - f.base) / 5 := by omega
    rw [if_neg hb, List.getElem?_eq_none hg]

/-- After Reset memory holds the font's bytes and 0 elsewhere. -/
theorem State.hostReset_read (s : State) {a : Nat} (h : a < 4096) :
    s.hostReset.memory.read a = some (fontByteAt s.memory.font a) := if_pos h

/-- R37 from any state; the bound of R6 keeps every glyph inside memory. -/
theorem holdsResetValues_hostReset {s : State} (hf : s.memory.font.wellFormed = true) :
    HoldsResetValues s.hostReset s.memory.font := by
  have hbound : s.memory.font.base + 5 * s.memory.font.glyphs.length ≤ 512 := of_decide_eq_true hf
  refine ⟨fun r => ?_, fun g j hg hj => ?_, fun a ha hout => ?_, rfl, rfl, rfl, rfl, rfl, fun y x hy hx => ?_,
    fun k hk => ?_, rfl, rfl⟩
  · simp [State.reg, State.hostReset]
  · rw [s.hostReset_read (by omega), fontByteAt_glyph _ hg hj]
  · rw [s.hostReset_read ha, fontByteAt_outside _ hout]
  · simp [State.hostReset, Framebuffer.dark]
  · simp [State.hostReset]

/-- Settles O6: what Reset writes does not depend on the state before it, the font parameters apart. -/
theorem hostResetRestartsFromAnyState : Obligations.HostResetRestartsFromAnyState :=
  fun _ hf => ⟨holdsResetValues_hostReset hf, rfl⟩

/-- Settles O5: State.reset is what Reset leaves of itself. -/
theorem resetStateHoldsTheSpecValues : Obligations.ResetStateHoldsTheSpecValues :=
  holdsResetValues_hostReset (s := State.reset) (by decide)

end Sys2Proof.Machine
end

section
/-! The fetch as claims read it (O11), and the fetch after an FX55 that stores over the next word (O25). -/

namespace Sys2Proof.Machine

open Sys2Proof.Claims

/-! ### The fetch -/

theorem Memory.read_eq_some_iff {m : Memory} {a : Nat} {b : Byte} :
    m.read a = some b ↔ a < Config.memSize ∧ m.byte a = b := by
  by_cases h : a < Config.memSize <;> simp [Memory.read, h]

/-- The high byte is the first one (R62). -/
theorem toNat_wordOfBytes (hi lo : Byte) : (wordOfBytes hi lo).toNat = hi.toNat * 256 + lo.toNat := by
  rw [wordOfBytes, BitVec.toNat_append, ← Nat.shiftLeft_add_eq_or_of_lt lo.isLt, Nat.shiftLeft_eq]

/-- Where both bytes exist the fetch answers the word made of them. -/
theorem Memory.fetch_of_read {m : Memory} {a : Nat} {hi lo : Byte} (hhi : m.read a = some hi)
    (hlo : m.read (a + 1) = some lo) : m.fetch a = .ok (wordOfBytes hi lo) := by
  obtain ⟨_, rfl⟩ := Memory.read_eq_some_iff.1 hhi
  obtain ⟨hlt, rfl⟩ := Memory.read_eq_some_iff.1 hlo
  exact if_pos hlt

theorem Memory.fetch_of_gt {m : Memory} {a : Nat} (h : 4094 < a) : m.fetch a = .error .fetchOob := by
  rcases m.fetch_cases a with ⟨hle, _⟩ | ⟨_, he⟩
  · exact absurd h (Nat.not_lt_of_le hle)
  · exact he

/-- Settles O11: the word of two bytes that exist, the fetch above them, and the Cycle whose fetch faults. -/
theorem fetchIsBigEndianOrFaults : Obligations.FetchIsBigEndianOrFaults := by
  refine ⟨fun m a hi lo hhi hlo => ?_, fun m a h => Memory.fetch_of_gt h, fun s hf hp => ?_⟩
  · exact ⟨_, Memory.fetch_of_read hhi hlo, toNat_wordOfBytes hi lo⟩
  · have hc : CycleTo s.presentKeys _ := .fetchFault (by simpa using hf) (by simpa using hp)
    exact hc.cycle_eq

/-! ### What FX55 stores -/

theorem State.getElem_regBlock (s : State) {x r : RegNum} (h : r.toNat < (s.regBlock x).length) :
    (s.regBlock x)[r.toNat] = s.reg r := by
  simp [State.regBlock, State.reg]

/-- An FX55 that does not fault stores its whole block inside memory and goes on to the next word (R184). -/
theorem store_of_execFX55 {s t : State} {x : RegNum} (h : exec (.opFX55 x) s = .next t) (ht : t.fault = .none) :
    s.index.toNat + x.toNat ≤ 4095 ∧
      t = s.advance.setMemory (s.memory.putBytes s.index.toNat (s.regBlock x)) := by
  change commit s ((s.memory.store s.dataAddress (s.regBlock x)).map s.advance.setMemory) = _ at h
  rcases s.memory.store_cases s.dataAddress (s.regBlock x) with ⟨hr, he⟩ | ⟨_, he⟩ <;> rw [he] at h <;> cases h
  · rw [accessInRange_iff, s.length_regBlock, State.dataAddress, Config.memSize] at hr
    exact ⟨by omega, rfl⟩
  · cases ht

/-- Each register of the block is read back from its byte (R184). -/
theorem read_of_execFX55 {s t : State} {x : RegNum} (hwf : s.memory.wf = true)
    (h : exec (.opFX55 x) s = .next t) (ht : t.fault = .none) {r : RegNum} (hr : r.toNat ≤ x.toNat) :
    t.memory.read (s.index.toNat + r.toNat) = some (s.reg r) := by
  obtain ⟨hrange, rfl⟩ := store_of_execFX55 h ht
  have hlen := s.length_regBlock x
  refine Memory.read_eq_some_iff.2 ⟨Nat.lt_succ_of_le (by omega), ?_⟩
  rw [State.setMemory_memory, Memory.byte_putBytes_inside hwf (by rw [hlen, Config.memSize]; omega) (by omega),
    s.getElem_regBlock]

/-! ### The next fetch -/

/-- `read_of_execFX55` by the address of the byte. -/
theorem read_of_execFX55_at {s t : State} {x : RegNum} (hwf : s.memory.wf = true)
    (h : exec (.opFX55 x) s = .next t) (ht : t.fault = .none) {a : Nat} (hlo : s.index.toNat ≤ a)
    (hhi : a ≤ s.index.toNat + x.toNat) :
    t.memory.read a = some (s.reg (BitVec.ofNat 4 (a - s.index.toNat))) := by
  have hx : x.toNat < 16 := x.isLt
  have hr : (BitVec.ofNat 4 (a - s.index.toNat)).toNat = a - s.index.toNat :=
    Nat.mod_eq_of_lt (by omega)
  have hread := read_of_execFX55 hwf h ht (r := BitVec.ofNat 4 (a - s.index.toNat)) (by omega)
  rwa [hr, Nat.add_sub_cancel' hlo] at hread

/-- An FX55 over both bytes of the next word leaves two of its registers there. The store lies inside memory,
so the address of that word does not wrap. -/
theorem wordAt_of_execFX55 {s t : State} {x : RegNum} (hwf : s.memory.wf = true)
    (h : exec (.opFX55 x) s = .next t) (ht : t.fault = .none) (hlo : s.index.toNat ≤ s.pc.toNat + 2)
    (hhi : s.pc.toNat + 3 ≤ s.index.toNat + x.toNat) :
    wordAt t = wordOfBytes (s.reg (BitVec.ofNat 4 (s.pc.toNat + 2 - s.index.toNat)))
      (s.reg (BitVec.ofNat 4 (s.pc.toNat + 3 - s.index.toNat))) := by
  obtain ⟨hrange, hteq⟩ := store_of_execFX55 h ht
  have hpc : t.pc.toNat = s.pc.toNat + 2 := by
    rw [hteq, State.setMemory_pc, State.advance_pc]
    bv_omega
  rw [wordAt, hpc, read_of_execFX55_at hwf h ht hlo (by omega),
    read_of_execFX55_at hwf h ht (a := s.pc.toNat + 3) (by omega) hhi]
  rfl

/-- The latch and the tick leave memory and `pc` alone. -/
@[simp] theorem wordAt_finish (t : State) (w : Word) : wordAt (t.finish w) = wordAt t := by simp [wordAt]

/-- Settles O25: a Cycle without a fault executed the FX55, and neither the keypad write before it nor the end of
the Cycle touches the word at `pc`. -/
theorem storedBytesAreFetchedNext : Obligations.StoredBytesAreFetchedNext := by
  intro s t x hwf h ht hdec hlo hhi
  cases CycleTo.of_step h with
  | halted hf => exact absurd ht hf
  | fetchFault => cases ht
  | executed hf hp hx =>
    rw [wordAt_presentKeys, hdec] at hx
    rw [State.finish_fault] at ht
    rw [wordAt_finish, wordAt_of_execFX55 (by simpa using hwf) hx ht (by simpa using hlo) (by simpa using hhi)]
    simp

end Sys2Proof.Machine
end

section
/-! Decoding (spec/30_encoding.md): the fields of a word put together from its parts, one equation of `decodeWord`
for each family (R94), and the round trip from an instruction to its bytes and back (O2). -/

namespace Sys2Proof

/-! ### The fields of a concatenation (R91) -/

theorem extractLsb'_append_high {u v m : Nat} (a : BitVec u) (b : BitVec v) (c : BitVec m) :
    (a ++ b ++ c).extractLsb' (v + m) u = a := by
  rw [BitVec.extractLsb'_append_eq_of_le (Nat.le_add_left m v), Nat.add_sub_cancel,
    BitVec.extractLsb'_append_eq_left]

theorem extractLsb'_append_middle {u v m : Nat} (a : BitVec u) (b : BitVec v) (c : BitVec m) :
    (a ++ b ++ c).extractLsb' m v = b := by
  rw [BitVec.extractLsb'_append_eq_of_le (Nat.le_refl m), Nat.sub_self, BitVec.extractLsb'_append_eq_right]

section
variable (f x y n : Nibble) (kk : Byte) (nnn : Addr12)

@[simp] theorem familyOf_append_nnn : familyOf (f ++ nnn) = f := BitVec.extractLsb'_append_eq_left
@[simp] theorem fieldNNN_append_nnn : fieldNNN (f ++ nnn) = nnn := BitVec.extractLsb'_append_eq_right

@[simp] theorem familyOf_append_xkk : familyOf (f ++ x ++ kk) = f := extractLsb'_append_high f x kk
@[simp] theorem fieldX_append_xkk : fieldX (f ++ x ++ kk) = x := extractLsb'_append_middle f x kk
@[simp] theorem fieldKK_append_xkk : fieldKK (f ++ x ++ kk) = kk := BitVec.extractLsb'_append_eq_right
@[simp] theorem fieldN_append_xkk : fieldN (f ++ x ++ kk) = kk.extractLsb' 0 4 :=
  BitVec.extractLsb'_append_eq_of_add_le (by decide)

@[simp] theorem familyOf_append_xyn : familyOf (f ++ x ++ y ++ n) = f :=
  (BitVec.extractLsb'_append_eq_of_le (xlo := n) (by decide)).trans (extractLsb'_append_high f x y)
@[simp] theorem fieldX_append_xyn : fieldX (f ++ x ++ y ++ n) = x :=
  (BitVec.extractLsb'_append_eq_of_le (xlo := n) (by decide)).trans (extractLsb'_append_middle f x y)
@[simp] theorem fieldY_append_xyn : fieldY (f ++ x ++ y ++ n) = y := extractLsb'_append_middle (f ++ x) y n
@[simp] theorem fieldN_append_xyn : fieldN (f ++ x ++ y ++ n) = n := BitVec.extractLsb'_append_eq_right

/-- The form of family 0, whose bits 11:4 are not examined. -/
@[simp] theorem familyOf_append_kkn : familyOf (f ++ kk ++ n) = f := extractLsb'_append_high f kk n
@[simp] theorem fieldN_append_kkn : fieldN (f ++ kk ++ n) = n := BitVec.extractLsb'_append_eq_right

/-! ### The sixteen families (R94 to R99) -/

theorem decodeWord_family0 : decodeWord (0x0#4 ++ kk ++ n) = decodeFamily0 n := by simp [decodeWord]
theorem decodeWord_family1 : decodeWord (0x1#4 ++ nnn) = .op1NNN nnn := by simp [decodeWord]
theorem decodeWord_family2 : decodeWord (0x2#4 ++ nnn) = .op2NNN nnn := by simp [decodeWord]
theorem decodeWord_family3 : decodeWord (0x3#4 ++ x ++ kk) = .op3XKK x kk := by simp [decodeWord]
theorem decodeWord_family4 : decodeWord (0x4#4 ++ x ++ kk) = .op4XKK x kk := by simp [decodeWord]
theorem decodeWord_family5 : decodeWord (0x5#4 ++ x ++ y ++ n) = .op5XY0 x y := by simp [decodeWord]
theorem decodeWord_family6 : decodeWord (0x6#4 ++ x ++ kk) = .op6XKK x kk := by simp [decodeWord]
theorem decodeWord_family7 : decodeWord (0x7#4 ++ x ++ kk) = .op7XKK x kk := by simp [decodeWord]
theorem decodeWord_family8 : decodeWord (0x8#4 ++ x ++ y ++ n) = decodeFamily8 x y n := by simp [decodeWord]
theorem decodeWord_family9 : decodeWord (0x9#4 ++ x ++ y ++ n) = .op9XY0 x y := by simp [decodeWord]
theorem decodeWord_familyA : decodeWord (0xA#4 ++ nnn) = .opANNN nnn := by simp [decodeWord]
theorem decodeWord_familyB : decodeWord (0xB#4 ++ nnn) = .opBNNN nnn := by simp [decodeWord]
theorem decodeWord_familyC : decodeWord (0xC#4 ++ x ++ kk) = .opCXKK x kk := by simp [decodeWord]
theorem decodeWord_familyD : decodeWord (0xD#4 ++ x ++ y ++ n) = .opDXYN x y n := by simp [decodeWord]
theorem decodeWord_familyE : decodeWord (0xE#4 ++ x ++ y ++ n) = decodeFamilyE x n := by simp [decodeWord]
theorem decodeWord_familyE_xkk : decodeWord (0xE#4 ++ x ++ kk) = decodeFamilyE x (kk.extractLsb' 0 4) := by
  simp [decodeWord]
theorem decodeWord_familyF : decodeWord (0xF#4 ++ x ++ kk) = decodeFamilyF x kk := by simp [decodeWord]

end

/-! ### The round trip -/

/-- The canonical word of every instruction decodes to it (R101, R102). -/
theorem decodeWord_encode (i : Instr) : decodeWord (encode i) = i := by
  cases i with
  | op1NNN nnn => exact decodeWord_family1 nnn
  | op2NNN nnn => exact decodeWord_family2 nnn
  | op3XKK x kk => exact decodeWord_family3 x kk
  | op4XKK x kk => exact decodeWord_family4 x kk
  | op5XY0 x y => exact decodeWord_family5 x y 0
  | op6XKK x kk => exact decodeWord_family6 x kk
  | op7XKK x kk => exact decodeWord_family7 x kk
  | op8XY0 x y | op8XY1 x y | op8XY2 x y | op8XY3 x y | op8XY4 x y | op8XY5 x y | op8XY6 x y | op8XY7 x y
  | op8XYE x y => exact decodeWord_family8 x y _
  | op9XY0 x y => exact decodeWord_family9 x y 0
  | opANNN nnn => exact decodeWord_familyA nnn
  | opBNNN nnn => exact decodeWord_familyB nnn
  | opCXKK x kk => exact decodeWord_familyC x kk
  | opDXYN x y n => exact decodeWord_familyD x y n
  | opEX9E x => exact decodeWord_familyE_xkk x 0x9E
  | opEXA1 x => exact decodeWord_familyE_xkk x 0xA1
  | opFX07 x | opFX0A x | opFX15 x | opFX18 x | opFX1E x | opFX29 x | opFX33 x | opFX55 x | opFX65 x =>
    exact decodeWord_familyF x _
  | _ => rfl

/-- A word is decoded from its two bytes (R90). -/
theorem decode_bytesOfWord (w : Word) (rest : List Byte) :
    decode (bytesOfWord w ++ rest) = .ok (decodeWord w, rest) := by
  have hw : wordOfBytes (w.extractLsb' 8 8) (w.extractLsb' 0 8) = w := BitVec.extractLsb'_append_extractLsb'
  exact congrArg (fun v => Except.ok (decodeWord v, rest)) hw

/-- Settles O2: the bytes are those of the canonical word, which decodes to the instruction. -/
theorem decodeOfEncodeIsIdentity : Obligations.DecodeOfEncodeIsIdentity := by
  intro i rest _
  rw [encodeBytes, decode_bytesOfWord, decodeWord_encode]

/-- Settles O1, by evaluating the decoder on the fourteen words. -/
theorem writtenOutWordsDecode : Obligations.WrittenOutWordsDecode := by
  unfold Obligations.WrittenOutWordsDecode
  decide

end Sys2Proof
end

section
/-! The row each word selects (O3) and the selectors of the compound families (O4). -/

namespace Sys2Proof

/-! ### The rows -/

/-- The match words of the 34 instructions in the opcode map (R102). -/
def instructionPatterns : List Word :=
  [0x0000, 0x000E, 0x1000, 0x2000, 0x3000, 0x4000, 0x5000, 0x6000, 0x7000, 0x8000, 0x8001, 0x8002, 0x8003,
    0x8004, 0x8005, 0x8006, 0x8007, 0x800E, 0x9000, 0xA000, 0xB000, 0xC000, 0xD000, 0xE00E, 0xE001, 0xF007,
    0xF00A, 0xF015, 0xF018, 0xF01E, 0xF029, 0xF033, 0xF055, 0xF065]

/-- The row with these examined bits: an instruction where the map lists one, else unassigned (R100). -/
def rowOfPattern (mask pattern : Word) : Row :=
  ⟨mask, pattern, if pattern ∈ instructionPatterns then .instruction else .unassigned⟩

/-- The bits that choose the row of a word, by its family (R94 to R98). -/
def examinedBits (f : Nibble) : Word :=
  match f.toNat with
  | 0x0 | 0x8 | 0xE => 0xF00F
  | 0xF => 0xF0FF
  | _ => 0xF000

/-! The row of every selector, by evaluation. The operands `x` and `y` take no part in a row, so they stay free. -/

theorem row_decodeFamily0 (n : Nibble) :
    (decodeFamily0 n).row = rowOfPattern 0xF00F (0x0#4 ++ 0#8 ++ n) := by
  revert n
  decide

theorem row_decodeFamily8 (x y : RegNum) (n : Nibble) :
    (decodeFamily8 x y n).row = rowOfPattern 0xF00F (0x8#4 ++ 0#8 ++ n) := by
  revert n
  exact of_decide_eq_true rfl

theorem row_decodeFamilyE (x : RegNum) (n : Nibble) :
    (decodeFamilyE x n).row = rowOfPattern 0xF00F (0xE#4 ++ 0#8 ++ n) := by
  revert n
  exact of_decide_eq_true rfl

theorem row_decodeFamilyF (x : RegNum) (kk : Byte) :
    (decodeFamilyF x kk).row = rowOfPattern 0xF0FF (0xF#4 ++ 0#4 ++ kk) := by
  revert kk
  exact of_decide_eq_true rfl

/-! ### The examined bits of a word -/

/-- A mask of ones at both ends keeps the two ends of a word. -/
theorem and_ones_zeros_ones {u v m : Nat} (w : BitVec (u + v + m)) :
    w &&& (BitVec.allOnes u ++ 0#v ++ BitVec.allOnes m) =
      w.extractLsb' (v + m) u ++ 0#v ++ w.extractLsb' 0 m := by
  have hw : w.extractLsb' (v + m) u ++ w.extractLsb' m v ++ w.extractLsb' 0 m = w := by
    rw [BitVec.extractLsb'_append_extractLsb'_eq_extractLsb' (Nat.add_comm v m)]
    exact BitVec.extractLsb'_append_extractLsb'
  conv_lhs => rw [← hw]
  rw [BitVec.and_append, Laws.TableRow.and_keeps_high, BitVec.and_allOnes]

theorem and_0xF000 (w : Word) : w &&& 0xF000 = familyOf w ++ 0#12 := by
  have hw : familyOf w ++ fieldNNN w = w := BitVec.extractLsb'_append_extractLsb'
  conv_lhs => rw [← hw]
  exact Laws.TableRow.and_keeps_high (familyOf w) (fieldNNN w)

theorem and_0xF00F (w : Word) : w &&& 0xF00F = familyOf w ++ 0#8 ++ fieldN w :=
  and_ones_zeros_ones (u := 4) (v := 8) (m := 4) w

theorem and_0xF0FF (w : Word) : w &&& 0xF0FF = familyOf w ++ 0#4 ++ fieldKK w :=
  and_ones_zeros_ones (u := 4) (v := 4) (m := 8) w

theorem familyOf_examinedBits (f : Nibble) : familyOf (examinedBits f) = BitVec.allOnes 4 := by
  revert f
  decide

/-- The family is among the examined bits. -/
theorem familyOf_and_examinedBits (w : Word) (f : Nibble) : familyOf (w &&& examinedBits f) = familyOf w := by
  rw [familyOf, BitVec.extractLsb'_and]
  exact (congrArg _ (familyOf_examinedBits f)).trans BitVec.and_allOnes

theorem eq_ofNat_of_toNat_eq {f : Nibble} {k : Nat} (h : f.toNat = k) : f = BitVec.ofNat 4 k := by
  rw [← h, BitVec.ofNat_toNat, BitVec.setWidth_eq]

/-- The row of a word's examined bits. -/
def rowOfWord (w : Word) : Row := rowOfPattern (examinedBits (familyOf w)) (w &&& examinedBits (familyOf w))

section
variable {w : Word} {k : Nat} (h : (familyOf w).toNat = k)
include h

theorem rowOfWord_direct (hk : examinedBits (BitVec.ofNat 4 k) = 0xF000) :
    rowOfWord w = rowOfPattern 0xF000 (BitVec.ofNat 4 k ++ 0#12) := by
  rw [rowOfWord, eq_ofNat_of_toNat_eq h, hk, and_0xF000, eq_ofNat_of_toNat_eq h]

theorem rowOfWord_digit (hk : examinedBits (BitVec.ofNat 4 k) = 0xF00F) :
    rowOfWord w = rowOfPattern 0xF00F (BitVec.ofNat 4 k ++ 0#8 ++ fieldN w) := by
  rw [rowOfWord, eq_ofNat_of_toNat_eq h, hk, and_0xF00F, eq_ofNat_of_toNat_eq h]

theorem rowOfWord_byte (hk : examinedBits (BitVec.ofNat 4 k) = 0xF0FF) :
    rowOfWord w = rowOfPattern 0xF0FF (BitVec.ofNat 4 k ++ 0#4 ++ fieldKK w) := by
  rw [rowOfWord, eq_ofNat_of_toNat_eq h, hk, and_0xF0FF, eq_ofNat_of_toNat_eq h]

end

/-- The row of a word is determined by its examined bits (R94 to R98). -/
theorem row_decodeWord (w : Word) : (decodeWord w).row = rowOfWord w := by
  unfold decodeWord
  split
  case h_1 h => rw [row_decodeFamily0, rowOfWord_digit h rfl]
  case h_9 h => rw [row_decodeFamily8, rowOfWord_digit h rfl]
  case h_15 h => rw [row_decodeFamilyE, rowOfWord_digit h rfl]
  case h_16 =>
    have h : (familyOf w).toNat = 15 := by
      simp only [imp_false] at *
      omega
    rw [row_decodeFamilyF, rowOfWord_byte h rfl]
  all_goals next h => exact (rowOfWord_direct h rfl).symm

/-- Words with the same examined bits are of the same family, so they have the same row. -/
theorem rowOfWord_eq_of_and_eq {v w : Word}
    (h : w &&& examinedBits (familyOf v) = v &&& examinedBits (familyOf v)) : rowOfWord w = rowOfWord v := by
  have hf : familyOf w = familyOf v := by
    rw [← familyOf_and_examinedBits w, h, familyOf_and_examinedBits]
  rw [rowOfWord, rowOfWord, hf, h]

/-- Settles O3: the row of a word holds its examined bits, and an instruction's row is that of its canonical
word. -/
theorem everyWordSelectsItsRowAlone : Obligations.EveryWordSelectsItsRowAlone := by
  intro w
  refine ⟨by rw [row_decodeWord]; rfl, fun i h => ?_⟩
  rw [← decodeWord_encode i, row_decodeWord] at h ⊢
  rw [row_decodeWord, rowOfWord_eq_of_and_eq h]

/-! ### The selectors -/

theorem isUnassigned_of_row {i : Instr} {mask pattern : Word} (h : i.row = rowOfPattern mask pattern)
    (hp : pattern ∉ instructionPatterns) : i.isUnassigned = true := by
  simp [Instr.isUnassigned, h, rowOfPattern, hp]

/-- Settles O4: each family by its equation; in the compound ones each listed selector is evaluated, and no
other selector has its pattern in the opcode map. -/
theorem dispatchOfEveryFamily : Obligations.DispatchOfEveryFamily := by
  refine ⟨fun x y n kk nnn => ⟨decodeWord_family1 nnn, decodeWord_family2 nnn, decodeWord_family3 x kk,
    decodeWord_family4 x kk, decodeWord_family5 x y n, decodeWord_family6 x kk, decodeWord_family7 x kk,
    decodeWord_family9 x y n, decodeWord_familyA nnn, decodeWord_familyB nnn, decodeWord_familyC x kk,
    decodeWord_familyD x y n⟩, fun mid n => ?_, fun x y n => ?_, fun x mid n => ?_, fun x kk => ?_⟩
  · simp only [decodeWord_family0]
    split_ifs
    case neg => exact isUnassigned_of_row (row_decodeFamily0 n) (by revert n; decide)
    all_goals subst n; rfl
  · simp only [decodeWord_family8]
    split_ifs
    case neg => exact isUnassigned_of_row (row_decodeFamily8 x y n) (by revert n; decide)
    all_goals subst n; rfl
  · simp only [decodeWord_familyE]
    split_ifs
    case neg => exact isUnassigned_of_row (row_decodeFamilyE x n) (by revert n; decide)
    all_goals subst n; rfl
  · simp only [decodeWord_familyF]
    split_ifs
    case neg => exact isUnassigned_of_row (row_decodeFamilyF x kk) (by revert kk; decide)
    all_goals subst kk; rfl

end Sys2Proof
end

section
/-! Every step answers a next state (O15). -/

namespace Sys2Proof.Machine

/-- Settles O15: a Cycle answers a next state whether it is halted, faults at the fetch or executes an
instruction. -/
theorem stepAlwaysAnswersNext : Obligations.StepAlwaysAnswersNext := by
  intro s
  obtain ⟨t, h⟩ := exists_cycleTo s.presentKeys
  exact ⟨t, h.cycle_eq⟩

end Sys2Proof.Machine
end

section
/-! Control transfer (spec/40_cycle_control_flow.md): the jumps, the skips, the call and the return (O29 to
O35). -/

namespace Sys2Proof.Machine

open Sys2Proof.Claims

/-! ### Jumps and skips: nothing but `pc` is written -/

theorem pcFrame_setPc (s : State) (w : Word) : PcFrame s (s.setPc w) := ⟨rfl, fun _ => rfl, fun _ => rfl⟩

theorem pcFrame_skipIf_advance (s : State) (c : Bool) : PcFrame s (s.advance.skipIf c) := by
  cases c with
  | false => exact pcFrame_setPc s _
  | true => exact pcFrame_setPc s _

/-- A skip passes over the next word (R9, R130). -/
theorem State.pc_skipIf_advance (s : State) (c : Bool) :
    (s.advance.skipIf c).pc = if c then s.pc + 4 else s.pc + 2 := by
  rw [State.skipIf_pc, State.advance_pc, BitVec.add_assoc]
  rfl

/-- The skip of 3XKK and 5XY0: on equal bytes, which are equal as unsigned numbers. -/
theorem State.pc_skipIf_advance_eq (s : State) (a b : Byte) :
    (s.advance.skipIf (decide (a = b))).pc = if a.toNat = b.toNat then s.pc + 4 else s.pc + 2 := by
  simp only [State.pc_skipIf_advance, decide_eq_true_eq, BitVec.toNat_inj]

/-- The skip of 4XKK and 9XY0. -/
theorem State.pc_skipIf_advance_ne (s : State) (a b : Byte) :
    (s.advance.skipIf (decide (a ≠ b))).pc = if a.toNat = b.toNat then s.pc + 2 else s.pc + 4 := by
  simp only [State.pc_skipIf_advance, decide_eq_true_eq, BitVec.toNat_inj, ite_not]

@[simp] theorem toNat_addressOperand (nnn : Addr12) : (addressOperand nnn).toNat = nnn.toNat :=
  BitVec.toNat_setWidth_of_le (by decide)

/-- Settles O29: NNN is zero-extended, whatever its value. -/
theorem jumpLoadsItsTarget : Obligations.JumpLoadsItsTarget :=
  fun s nnn => ⟨_, rfl, toNat_addressOperand nnn, pcFrame_setPc s _⟩

/-- The sum of BNNN is at most 255 + 4095, so it does not wrap (R128). -/
theorem toNat_regWord_add_addressOperand (s : State) (x : RegNum) (nnn : Addr12) :
    (s.regWord x + addressOperand nnn).toNat = (s.reg x).toNat + nnn.toNat := by
  simp only [State.regWord, addressOperand]
  bv_omega

/-- Settles O35: the sum fits in 16 bits, and only `pc` is written. -/
theorem offsetJumpAddsV0 : Obligations.OffsetJumpAddsV0 :=
  fun s nnn => ⟨_, rfl, toNat_regWord_add_addressOperand s 0 nnn, pcFrame_setPc s _⟩

/-- Settles O33: both are skips on a comparison of V[X] with KK. -/
theorem byteComparisonsSkip : Obligations.ByteComparisonsSkip :=
  fun s x kk =>
    ⟨⟨_, rfl, s.pc_skipIf_advance_eq (s.reg x) kk, pcFrame_skipIf_advance s _⟩,
      ⟨_, rfl, s.pc_skipIf_advance_ne (s.reg x) kk, pcFrame_skipIf_advance s _⟩⟩

/-- Settles O34: the same skips, with V[Y] for KK. -/
theorem registerComparisonsSkip : Obligations.RegisterComparisonsSkip :=
  fun s x y =>
    ⟨⟨_, rfl, s.pc_skipIf_advance_eq (s.reg x) (s.reg y), pcFrame_skipIf_advance s _⟩,
      ⟨_, rfl, s.pc_skipIf_advance_ne (s.reg x) (s.reg y), pcFrame_skipIf_advance s _⟩⟩

/-! ### Call and return -/

theorem State.called_stack_same (s : State) (nnn : Addr12) (h : s.sp.val < 16) :
    (s.called nnn h).stack[s.sp.val] = s.pc + 2 :=
  Vector.getElem_set_self h

theorem State.called_stack_ne (s : State) (nnn : Addr12) (h : s.sp.val < 16) {k : Nat} (hk : k < 16)
    (hne : k ≠ s.sp.val) : (s.called nnn h).stack[k] = s.stack[k] :=
  Vector.getElem_set_ne h hk hne.symm

/-- Settles O30: with a free slot the answer is `State.called`. -/
theorem callPushesTheReturnAddress : Obligations.CallPushesTheReturnAddress := by
  intro s nnn
  split
  case isTrue h =>
    exact ⟨s.called nnn h, exec2NNN_of_lt nnn h, s.called_stack_same nnn h, rfl, toNat_addressOperand nnn,
      fun k hk hne => s.called_stack_ne nnn h hk hne, rfl, fun _ => rfl, fun _ => rfl⟩
  case isFalse h => exact exec2NNN_of_not_lt nnn h

/-- Settles O31: with a live entry the answer is `State.returned`. -/
theorem returnPopsTheReturnAddress : Obligations.ReturnPopsTheReturnAddress := by
  intro s
  split
  case isTrue h => exact ⟨s.returned, exec00EE_of_pos h, rfl, rfl, rfl, fun _ => rfl, fun _ => rfl⟩
  case isFalse h => exact exec00EE_of_not_pos h

/-- A return that finds the stack a call left takes the entry of that call (R121, R123). -/
theorem State.returned_of_called {s u : State} {nnn : Addr12} {h : s.sp.val < 16}
    (hst : u.stack = (s.called nnn h).stack) (hsp : u.sp = (s.called nnn h).sp) :
    u.returned.pc = s.pc + 2 ∧ u.returned.sp = s.sp := by
  have hval : u.sp.val - 1 = s.sp.val := by rw [hsp]; rfl
  constructor
  · simp only [State.returned, hst, hval]
    exact s.called_stack_same nnn h
  · exact Fin.ext hval

/-- Settles O32: the entry that the call pushed is the one that the return pops. -/
theorem returnUndoesCall : Obligations.ReturnUndoesCall := by
  intro s nnn h
  refine ⟨s.called nnn h, exec2NNN_of_lt nnn h, fun u hst hsp => ?_⟩
  have hpos : 0 < u.sp.val := hsp ▸ Nat.succ_pos s.sp.val
  exact ⟨u.returned, exec00EE_of_pos hpos, State.returned_of_called hst hsp⟩

end Sys2Proof.Machine
end

section
/-! The unassigned words are no-ops (O28), and a step is `exec` of the decoded instruction, latch and tick
(O10). -/

namespace Sys2Proof.Machine

open Sys2Proof.Claims

/-- Each of the 282 unassigned rows only advances `pc` (R129); the 34 instructions are not unassigned. -/
theorem exec_of_isUnassigned {i : Instr} (h : i.isUnassigned = true) (s : State) :
    exec i s = .next s.advance := by
  cases i with
  | op00E0 | op00EE | op1NNN | op2NNN | op3XKK | op4XKK | op5XY0 | op6XKK | op7XKK | op8XY0 | op8XY1 | op8XY2
  | op8XY3 | op8XY4 | op8XY5 | op8XY6 | op8XY7 | op8XYE | op9XY0 | opANNN | opBNNN | opCXKK | opDXYN | opEX9E
  | opEXA1 | opFX07 | opFX0A | opFX15 | opFX18 | opFX1E | opFX29 | opFX33 | opFX55 | opFX65 => cases h
  | _ => rfl

/-- The tick takes one off and stops at 0 (R248). -/
theorem toNat_tickTimer (t : Byte) : (tickTimer t).toNat = t.toNat - 1 := by
  unfold tickTimer
  split
  case isTrue h => exact Nat.mod_eq_of_lt (Nat.lt_of_le_of_lt (Nat.sub_le _ _) t.isLt)
  case isFalse h => omega

/-- A step that fetches a word executes it and ends the Cycle. -/
theorem step_of_exec {s t : State} (hf : s.fault = .none) (hp : s.pc.toNat ≤ 4094)
    (hx : exec (decodeWord (wordAt s)) s.presentKeys = .next t) : step s = .next (t.finish (wordAt s)) := by
  rw [← wordAt_presentKeys] at hx ⊢
  exact (CycleTo.executed (by simpa using hf) (by simpa using hp) hx).cycle_eq

/-- Settles O28: `exec` advances `pc`, and the end of the Cycle writes the latch and the two timers. -/
theorem unassignedWordsAreNoOperations : Obligations.UnassignedWordsAreNoOperations := by
  constructor
  · intro i s hi
    exact ⟨s.advance, exec_of_isUnassigned hi s, rfl, pcFrame_setPc s _⟩
  · intro s hf hp hi
    have hfin : s.presentKeys.advance.finish (wordAt s) = (s.presentKeys.advance.latch (wordAt s)).tick :=
      State.finish_of_none _ (by simpa using hf)
    refine ⟨_, step_of_exec hf hp (exec_of_isUnassigned hi _), ?_, ?_, ?_⟩ <;> rw [hfin]
    · rw [← s.presentKeys_pc]
      rfl
    · simp [toNat_tickTimer]
    · simp [toNat_tickTimer]

/-- Settles O10: the two bytes are the word at `pc`, and the instruction decoded from it answers a next state. -/
theorem stepRunsTheDecodedInstruction : Obligations.StepRunsTheDecodedInstruction := by
  intro s hi lo i hf hhi hlo hdec _
  have hw : wordAt s = wordOfBytes hi lo := by rw [wordAt, hhi, hlo]; rfl
  have hp : s.pc.toNat ≤ 4094 := by
    have hlt : s.pc.toNat + 1 < 4096 := (Memory.read_eq_some_iff.1 hlo).1
    omega
  have hi_eq : decodeWord (wordAt s) = i := by
    rw [hw]
    cases hdec
    rfl
  obtain ⟨t, hx, _⟩ := exec_effect i s.presentKeys
  rw [step_of_exec hf hp (hi_eq ▸ hx), hx, hw]
  rfl

end Sys2Proof.Machine
end

section
/-! `pc` after a Cycle that did not fault, by instruction class (O18). -/

namespace Sys2Proof.Machine

open Sys2Proof.Claims

/-- An instruction that may raise and left no fault did not raise. -/
theorem exists_ok_of_commit_map {α : Type} {s t : State} {e : Except FaultKind α} {f : α → State}
    (hraise : ∀ k, e = .error k → k ≠ .none) (h : commit s (e.map f) = .next t) (ht : t.fault = .none) :
    ∃ a, e = .ok a ∧ t = f a := by
  cases e with
  | ok a =>
    cases h
    exact ⟨a, rfl, rfl⟩
  | error k =>
    cases h
    exact absurd ht (hraise k rfl)

/-- The key number is below 16, so the latch is the key that claims read (R220). -/
theorem key_of_keyPressed {s : State} {b : Byte} {c : Bool} (h : s.keyPressed b = .ok c) :
    key s b.toNat = c := by
  rcases s.keyPressed_cases b with ⟨_, he⟩ | ⟨hb, he⟩ <;> cases he.symm.trans h
  exact dif_pos hb

/-- The scan of FX0A finds a key exactly when one is pressed (R222). -/
theorem isSome_firstPressedKey (s : State) :
    s.firstPressedKey.isSome = s.keypad.toList.contains true := by
  rcases leastPressed_cases s.keypad 16 (Nat.le_refl _) with ⟨hnone, hall⟩ | ⟨k, hk, hsome, hpressed, _⟩
  · have hno : true ∉ s.keypad.toList := fun hmem => by
      obtain ⟨j, hj, he⟩ := List.getElem_of_mem hmem
      have hj16 : j < 16 := by simpa using hj
      simp [hall j hj16 (Nat.zero_le _)] at he
    simp [State.firstPressedKey, hnone, hno]
  · have hyes : true ∈ s.keypad.toList := by
      rw [← hpressed]
      simp
    simp [State.firstPressedKey, hsome, hyes]

theorem pc_of_execFX0A {s t : State} {x : RegNum} (h : execFX0A x s = .next t) :
    t.pc = if s.keypad.toList.contains true then s.pc + 2 else s.pc := by
  rw [← isSome_firstPressedKey]
  unfold execFX0A at h
  cases hk : s.firstPressedKey with
  | some k =>
    rw [hk] at h
    cases h
    rfl
  | none =>
    rw [hk] at h
    cases h
    exact BitVec.add_sub_cancel _ _

theorem State.returned_pc (s : State) : s.returned.pc = s.stack.toList.getD (s.sp.val - 1) 0 := by
  have h : s.sp.val - 1 < 16 := by
    have := s.sp.isLt
    omega
  simp [State.returned, List.getD, h]

/-- `pc` after an instruction that left no fault (R130). -/
theorem pc_of_exec {i : Instr} {s t : State} (hx : exec i s = .next t) (ht : t.fault = .none) :
    t.pc = nextPc i s := by
  cases i with
  | op00EE =>
    by_cases h : 0 < s.sp.val
    · cases (exec00EE_of_pos h).symm.trans hx
      exact s.returned_pc
    · cases (exec00EE_of_not_pos h).symm.trans hx
      cases ht
  | op2NNN nnn =>
    by_cases h : s.sp.val < 16
    · cases (exec2NNN_of_lt nnn h).symm.trans hx
      rfl
    · cases (exec2NNN_of_not_lt nnn h).symm.trans hx
      cases ht
  | op3XKK | op5XY0 =>
    cases hx
    exact s.pc_skipIf_advance _
  | op4XKK | op9XY0 =>
    cases hx
    rw [s.pc_skipIf_advance, decide_not]
    rfl
  | opDXYN x y n =>
    rcases execDXYN_cases x y n s with ⟨k, hk, he⟩ | he <;> cases he.symm.trans hx
    · exact absurd ht hk
    · rfl
  | opEX9E x =>
    obtain ⟨c, hc, rfl⟩ := exists_ok_of_commit_map (fun _ => State.ne_none_of_keyPressed_error) hx ht
    rw [nextPc, key_of_keyPressed hc]
    exact s.pc_skipIf_advance c
  | opEXA1 x =>
    obtain ⟨c, hc, rfl⟩ := exists_ok_of_commit_map (fun _ => State.ne_none_of_keyPressed_error) hx ht
    rw [nextPc, key_of_keyPressed hc]
    exact s.pc_skipIf_advance !c
  | opFX0A x => exact pc_of_execFX0A hx
  | opFX33 | opFX55 =>
    obtain ⟨m, _, rfl⟩ := exists_ok_of_commit_map (fun _ => Memory.ne_none_of_store_error) hx ht
    rfl
  | opFX65 x =>
    obtain ⟨bs, _, rfl⟩ := exists_ok_of_commit_map (fun _ => Memory.ne_none_of_load_error) hx ht
    rfl
  | _ =>
    cases hx
    rfl

/-- Settles O18: a Cycle without a fault executed its word, and its end leaves `pc` alone. -/
theorem programCounterAdvancesByClass : Obligations.ProgramCounterAdvancesByClass := by
  intro s t h ht
  cases CycleTo.of_step h with
  | halted hf => exact absurd ht hf
  | fetchFault => cases ht
  | executed hf hp hx =>
    rw [State.finish_fault] at ht
    rw [State.finish_pc, pc_of_exec hx ht, wordAt_presentKeys]

end Sys2Proof.Machine
end

section
/-! The host's operations keep the invariant of the machine (O8). -/

namespace Sys2Proof.Machine

/-- Reset empties memory's cells and the stack, and keeps the font. -/
theorem State.Inv.hostReset {s : State} (h : s.Inv) : s.hostReset.Inv where
  memoryWf := rfl
  fontWf := h.fontWf
  pcBounded := by
    change (0x200 : Word).toNat ≤ 4350
    decide
  stackBounded := fun k _ hk => absurd hk k.not_lt_zero

/-- A memory in canonical form with the same font can replace the memory. -/
theorem State.Inv.setMemory {s : State} (h : s.Inv) {m : Memory} (hwf : m.wf = true)
    (hfont : m.font = s.memory.font) : (s.setMemory m).Inv where
  memoryWf := hwf
  fontWf := (congrArg Config.Font.wellFormed hfont).trans h.fontWf
  pcBounded := h.pcBounded
  stackBounded := h.stackBounded

/-- A successful Load writes memory alone (R272). -/
theorem State.eq_setMemory_of_load {s t : State} {bytes : List Byte} (h : s.load bytes = some t) :
    t = s.setMemory (s.memory.putBytes Config.programBase bytes) := by
  unfold State.load at h
  split at h
  · exact (Option.some.inj h).symm
  · cases h

theorem State.Inv.load {s t : State} (hs : s.Inv) {bytes : List Byte} (h : s.load bytes = some t) : t.Inv := by
  have hwf := State.load_memory_wf hs.memoryWf h
  rw [State.eq_setMemory_of_load h] at hwf ⊢
  exact hs.setMemory hwf (Memory.putBytes_font _ _ _)

/-- Settles O8: the keypad writes touch nothing that the invariant speaks of. -/
theorem hostOperationsKeepInvariant : Obligations.HostOperationsKeepInvariant :=
  fun s h => ⟨h.hostReset, fun _ => h.congr rfl rfl rfl rfl,
    h.congr s.presentKeys_memory s.presentKeys_pc s.presentKeys_stack s.presentKeys_sp, fun _ _ => h.load⟩

end Sys2Proof.Machine
end

section
/-! Register load, arithmetic, logic, shift and random (spec/41_alu.md): the arithmetic of a byte, and what one
register write, or a flag write and a register write, leaves in the advanced state (O36 to O41). -/

namespace Sys2Proof.Machine

open Sys2Proof.Claims

/-! ### Byte arithmetic and flags as natural numbers -/

/-- The borrow of a byte difference is taken from 256 (R163). -/
theorem toNat_byte_sub (a b : Byte) : (a - b).toNat = (256 + a.toNat - b.toNat) % 256 := by
  bv_omega

theorem toNat_byte_shiftLeft_one (a : Byte) : (a <<< 1).toNat = a.toNat * 2 % 256 := by
  rw [BitVec.toNat_shiftLeft, Nat.shiftLeft_eq]

theorem toNat_flagByte (c : Bool) : (flagByte c).toNat = c.toNat := by
  cases c <;> rfl

theorem toNat_flagByte_decide (p : Prop) [Decidable p] :
    (flagByte (decide p)).toNat = if p then 1 else 0 := by
  rw [toNat_flagByte, Bool.toNat, Bool.cond_decide]

theorem toNat_lowBitFlag (a : Byte) : (lowBitFlag a).toNat = a.toNat % 2 := by
  rw [lowBitFlag, toNat_flagByte, BitVec.getLsbD, Nat.toNat_testBit, Nat.pow_zero, Nat.div_one]

/-- Above bit 7 a byte has no further bit, so the quotient needs no reduction. -/
theorem toNat_highBitFlag (a : Byte) : (highBitFlag a).toNat = a.toNat / 128 := by
  rw [highBitFlag, toNat_flagByte, BitVec.getLsbD, Nat.toNat_testBit]
  omega

/-! ### Instructions that write one register -/

theorem regFrame_setReg_advance (s : State) (x : RegNum) (b : Byte) :
    RegFrame s (s.advance.setReg x b) [x] :=
  ⟨rfl, rfl, fun _ hr => s.advance.reg_setReg_ne b (List.ne_of_not_mem_cons hr), fun _ => rfl⟩

/-- Settles O36: the sum of 7XKK wraps as that of bit vectors. -/
theorem byteLoadAndAdd : Obligations.ByteLoadAndAdd :=
  fun s x kk =>
    ⟨⟨_, rfl, State.reg_setReg_same _ x kk, regFrame_setReg_advance s x kk⟩,
      ⟨_, rfl, by rw [State.reg_setReg_same, BitVec.toNat_add], regFrame_setReg_advance s x _⟩⟩

/-- Settles O37: each logical operation of bit vectors is the one of their bits. -/
theorem copyAndLogic : Obligations.CopyAndLogic :=
  fun s x y =>
    ⟨⟨_, rfl, State.reg_setReg_same _ x _, regFrame_setReg_advance s x _⟩,
      ⟨_, rfl, fun b => by rw [State.reg_setReg_same, BitVec.getLsbD_or], regFrame_setReg_advance s x _⟩,
      ⟨_, rfl, fun b => by rw [State.reg_setReg_same, BitVec.getLsbD_and], regFrame_setReg_advance s x _⟩,
      ⟨_, rfl, fun b => by rw [State.reg_setReg_same, BitVec.getLsbD_xor], regFrame_setReg_advance s x _⟩⟩

/-- Settles O41: the draw advances the source before the register is written, and the written byte is the
masked draw. -/
theorem randomByteIsMasked : Obligations.RandomByteIsMasked :=
  fun s x kk =>
    ⟨_, rfl, fun b => by rw [State.reg_setReg_same, BitVec.getLsbD_and, State.randomByte], rfl, rfl,
      fun _ hr => s.advance.drawn.reg_setReg_ne _ hr, rfl, fun _ => rfl⟩

/-! ### Instructions that write a flag and a register -/

/-- The result is written last, so it stays also where X = F (R150, D7). -/
theorem State.reg_setFlagThenReg_same (s : State) (x : RegNum) (flag b : Byte) :
    (s.setFlagThenReg x flag b).reg x = b :=
  State.reg_setReg_same _ x b

theorem State.reg_setFlagThenReg_flag (s : State) {x : RegNum} (hx : x ≠ 0xF) (flag b : Byte) :
    (s.setFlagThenReg x flag b).reg 0xF = flag := by
  rw [State.reg_setFlagThenReg, if_neg hx.symm]
  exact if_pos rfl

theorem regFrame_setFlagThenReg_advance (s : State) (x : RegNum) (flag b : Byte) :
    RegFrame s (s.advance.setFlagThenReg x flag b) [x, 0xF] := by
  refine ⟨rfl, rfl, fun r hr => ?_, fun _ => rfl⟩
  obtain ⟨hx, hf⟩ := not_or.mp (List.mem_pair.not.mp hr)
  rw [State.reg_setFlagThenReg, if_neg hx]
  exact if_neg hf

/-- What an instruction of this kind leaves, with its result and its flag as numbers. -/
theorem exec_leavesResultAndFlag {i : Instr} {s : State} {x : RegNum} {flag b : Byte} {result bit : Nat}
    (hi : exec i s = .next (s.advance.setFlagThenReg x flag b)) (hb : b.toNat = result)
    (hflag : flag.toNat = bit) :
    ∃ t, exec i s = .next t ∧ (t.reg x).toNat = result ∧ (x ≠ 0xF → (t.reg 0xF).toNat = bit) ∧
      RegFrame s t [x, 0xF] := by
  refine ⟨_, hi, ?_, fun hx => ?_, regFrame_setFlagThenReg_advance s x flag b⟩
  · rw [State.reg_setFlagThenReg_same, hb]
  · rw [State.reg_setFlagThenReg_flag _ hx, hflag]

/-- Settles O38: the flag is 1 where the exact sum passes 255. -/
theorem addLeavesSumAndCarry : Obligations.AddLeavesSumAndCarry :=
  fun _ _ _ => exec_leavesResultAndFlag rfl (BitVec.toNat_add _ _) (toNat_flagByte_decide _)

/-- Settles O39: 8XY7 is 8XY5 with the operands exchanged. -/
theorem subtractLeavesDifferenceAndFlag : Obligations.SubtractLeavesDifferenceAndFlag :=
  fun _ _ _ =>
    ⟨exec_leavesResultAndFlag rfl (toNat_byte_sub _ _) (toNat_flagByte_decide _),
      exec_leavesResultAndFlag rfl (toNat_byte_sub _ _) (toNat_flagByte_decide _)⟩

/-- Settles O40: result and flag are functions of V[X] alone. -/
theorem shiftLeavesResultAndBitOut : Obligations.ShiftLeavesResultAndBitOut :=
  fun _ _ _ =>
    ⟨exec_leavesResultAndFlag rfl (BitVec.toNat_ushiftRight _ 1) (toNat_lowBitFlag _),
      exec_leavesResultAndFlag rfl (toNat_byte_shiftLeft_one _) (toNat_highBitFlag _)⟩

end Sys2Proof.Machine
end

section
/-! Index and memory (spec/42_index_memory.md): the loads of `index` (O42, O43), the stores (O44, O45), the
register load (O46), and the load that follows a store (O47). -/

namespace Sys2Proof.Machine

open Sys2Proof.Claims

/-! ### Instructions that write `index` -/

theorem indexFrame_setIndex_advance (s : State) (w : Word) : IndexFrame s (s.advance.setIndex w) :=
  ⟨rfl, rfl, fun _ => rfl, fun _ => rfl⟩

theorem State.toNat_regWord (s : State) (x : RegNum) : (s.regWord x).toNat = (s.reg x).toNat :=
  BitVec.toNat_setWidth_of_le (by decide)

/-- Settles O42: NNN is zero-extended, and the sum of FX1E wraps as that of bit vectors. -/
theorem indexLoadAndAdd : Obligations.IndexLoadAndAdd :=
  fun s nnn x =>
    ⟨⟨_, rfl, toNat_addressOperand nnn, indexFrame_setIndex_advance s _⟩,
      ⟨_, rfl, by rw [State.setIndex_index, BitVec.toNat_add, s.toNat_regWord],
        indexFrame_setIndex_advance s _⟩⟩

/-- Under the bound of R6 the glyph address is at most 512 + 5 * 255, so it does not wrap (R182). -/
theorem State.toNat_glyphAddress {s : State} (hf : s.memory.font.wellFormed = true) (x : RegNum) :
    (s.glyphAddress x).toNat = s.memory.font.base + 5 * (s.reg x).toNat := by
  have hbound : s.memory.font.base + 5 * s.memory.font.glyphs.length ≤ 512 := of_decide_eq_true hf
  have hbyte : (s.reg x).toNat < 256 := (s.reg x).isLt
  exact Nat.mod_eq_of_lt (show s.memory.font.base + 5 * (s.reg x).toNat < 65536 by omega)

/-- Settles O43: the glyph address is computed without wrapping. -/
theorem glyphAddressIsComputed : Obligations.GlyphAddressIsComputed :=
  fun s x hf => ⟨_, rfl, State.toNat_glyphAddress hf x, indexFrame_setIndex_advance s _⟩

/-! ### Stores at `index` -/

/-- What FX33 and FX55 leave when their bytes `bs` lie inside memory (R183, R184). -/
def State.stored (s : State) (bs : List Byte) : State :=
  s.advance.setMemory (s.memory.putBytes s.index.toNat bs)

/-- A store of `n + 1` bytes whose last one lies inside memory is performed. -/
theorem commit_store_of_le {s : State} {bs : List Byte} {n : Nat} (hlen : bs.length = n + 1)
    (h : s.index.toNat + n ≤ 4095) :
    commit s ((s.memory.store s.dataAddress bs).map s.advance.setMemory) = .next (s.stored bs) := by
  have hr : accessInRange s.dataAddress bs.length = true := by
    rw [accessInRange_iff, hlen]
    exact .inr (Nat.succ_le_succ h)
  rw [Memory.store, if_pos hr]
  rfl

/-- A store of `n + 1` bytes whose last one lies above memory faults (D3). -/
theorem commit_store_of_gt {s : State} {bs : List Byte} {n : Nat} (hlen : bs.length = n + 1)
    (h : s.index.toNat + n > 4095) :
    commit s ((s.memory.store s.dataAddress bs).map s.advance.setMemory) =
      .next (s.raiseFault .memWriteOob) := by
  have hr : ¬ accessInRange s.dataAddress bs.length = true := by
    rw [accessInRange_iff, hlen, State.dataAddress, Config.memSize]
    omega
  rw [Memory.store, if_neg hr]
  rfl

/-- Each byte that lies inside memory is read back. -/
theorem State.read_stored {s : State} {bs : List Byte} (hwf : s.memory.wf = true)
    (h : s.index.toNat + bs.length ≤ 4096) {i : Nat} (hi : i < bs.length) :
    (s.stored bs).memory.read (s.index.toNat + i) = some bs[i] :=
  Memory.read_eq_some_iff.2
    ⟨Nat.lt_of_lt_of_le (Nat.add_lt_add_left hi _) h, Memory.byte_putBytes_inside hwf h hi⟩

theorem storeFrame_stored (s : State) (bs : List Byte) :
    StoreFrame s (s.stored bs) s.index.toNat bs.length :=
  ⟨rfl, rfl, fun _ => rfl, Memory.putBytes_font _ _ _,
    fun _ hb => Memory.read_congr (Memory.byte_putBytes_outside bs s.memory hb)⟩

/-- Settles O44: FX33 stores the three digits. -/
theorem decimalDigitsAreStored : Obligations.DecimalDigitsAreStored := by
  intro s x hwf
  have hlen : (decimalDigits (s.reg x)).length = 2 + 1 := rfl
  split
  case isTrue h => exact commit_store_of_gt hlen h
  case isFalse h =>
    have hle : s.index.toNat + 2 ≤ 4095 := Nat.le_of_not_lt h
    have hread {i : Nat} (hi : i < 3) :
        (s.stored (decimalDigits (s.reg x))).memory.read (s.index.toNat + i) =
          some (decimalDigits (s.reg x))[i] :=
      State.read_stored (bs := decimalDigits (s.reg x)) hwf (Nat.succ_le_succ hle) hi
    exact ⟨s.stored _, commit_store_of_le hlen hle, hread (i := 0) (by decide), hread (i := 1) (by decide),
      hread (i := 2) (by decide), storeFrame_stored s _⟩

/-- Settles O45: FX55 stores the block of registers, whose entry `r` is V[r]. -/
theorem registersAreStored : Obligations.RegistersAreStored := by
  intro s x hwf
  have hlen := s.length_regBlock x
  split
  case isTrue h => exact commit_store_of_gt hlen h
  case isFalse h =>
    have hle : s.index.toNat + x.toNat ≤ 4095 := Nat.le_of_not_lt h
    refine ⟨s.stored (s.regBlock x), commit_store_of_le hlen hle, fun r hr => ?_,
      hlen ▸ storeFrame_stored s (s.regBlock x)⟩
    rw [State.read_stored hwf (by omega) (by omega), s.getElem_regBlock]

/-! ### The register load -/

/-- What FX65 leaves when its bytes lie inside memory (R185). -/
def State.loadedRegs (s : State) (x : RegNum) : State :=
  { s.advance with v := writeRegs s.v 0 (s.memory.bytes s.index.toNat (blockLength x)) }

theorem exec_opFX65_of_le {s : State} {x : RegNum} (h : s.index.toNat + x.toNat ≤ 4095) :
    exec (.opFX65 x) s = .next (s.loadedRegs x) := by
  have hr : accessInRange s.dataAddress (blockLength x) = true :=
    (accessInRange_iff _ _).2 (.inr (Nat.succ_le_succ h))
  change execFX65 x s = _
  rw [execFX65, Memory.load, if_pos hr]
  rfl

theorem exec_opFX65_of_gt {s : State} {x : RegNum} (h : s.index.toNat + x.toNat > 4095) :
    exec (.opFX65 x) s = .next (s.raiseFault .memReadOob) := by
  have hr : ¬ accessInRange s.dataAddress (blockLength x) = true := by
    rw [accessInRange_iff, State.dataAddress, blockLength, Config.memSize]
    omega
  change execFX65 x s = _
  rw [execFX65, Memory.load, if_neg hr]
  rfl

/-- Registers up to X take the bytes at `index`; those above X stay. -/
theorem State.reg_loadedRegs (s : State) (x r : RegNum) :
    (s.loadedRegs x).reg r =
      if r.toNat ≤ x.toNat then s.memory.byte (s.index.toNat + r.toNat) else s.reg r := by
  simp only [State.reg, State.loadedRegs, getElem_writeRegs, Memory.length_bytes, Memory.getElem_bytes,
    blockLength, Nat.zero_le, true_and, Nat.sub_zero, Nat.lt_succ_iff, dite_eq_ite]

/-- Settles O46: every byte FX65 takes lies inside memory, so it is the one claims read there. -/
theorem registersAreLoaded : Obligations.RegistersAreLoaded := by
  intro s x
  split
  case isTrue h => exact exec_opFX65_of_gt h
  case isFalse h =>
    refine ⟨s.loadedRegs x, exec_opFX65_of_le (Nat.le_of_not_lt h), fun r hr => ?_, fun r hr => ?_, rfl, rfl,
      fun _ => rfl⟩
    · rw [s.reg_loadedRegs, if_pos hr]
      exact Memory.read_of_lt _ (show s.index.toNat + r.toNat < 4096 by omega)
    · rw [s.reg_loadedRegs, if_neg (Nat.not_le_of_gt hr)]

/-- Settles O47: O45 says which byte holds V[q] after the store, and O46 that FX65 loads V[q] from there. -/
theorem loadUndoesStore : Obligations.LoadUndoesStore := by
  intro s x hwf hrange
  have hstore := registersAreStored s x hwf
  rw [if_neg (Nat.not_lt_of_le hrange)] at hstore
  obtain ⟨t, hexec, hstored, _, hframe, _⟩ := hstore
  refine ⟨t, hexec, fun u hmem hindex => ?_⟩
  have hix : u.index = s.index := by rw [hindex, hframe]
  have hload := registersAreLoaded u x
  rw [hix, hmem, if_neg (Nat.not_lt_of_le hrange)] at hload
  obtain ⟨r, hexec', hloaded, _⟩ := hload
  exact ⟨r, hexec', fun q hq => Option.some.inj ((hloaded q hq).symm.trans (hstored q hq))⟩

end Sys2Proof.Machine
end

section
/-! The display (spec/43_display.md): the framebuffer as its pixels (O9, O48), what DXYN answers and what it leaves
(O49), and what follows for two draws in succession and for the row modulus (O50, O51). -/

namespace Sys2Proof.Machine

open Sys2Proof.Claims

/-! ### The framebuffer as its pixels -/

theorem Framebuffer.pixel_of_lt (fb : Framebuffer) {y x : Nat} (hy : y < 32) (hx : x < 64) :
    fb.pixel y x = (fb[y]'hy)[x]'hx :=
  dif_pos ⟨hy, hx⟩

/-- A framebuffer is nothing but its pixels. -/
theorem Framebuffer.eq_of_pixel_eq {fb fb' : Framebuffer} (h : ∀ y x, fb.pixel y x = fb'.pixel y x) :
    fb = fb' := by
  refine Vector.ext fun y hy => Vector.ext fun x hx => ?_
  rw [← fb.pixel_of_lt hy hx, ← fb'.pixel_of_lt hy hx, h]

/-- Settles O48: the dark framebuffer replaces the old one in the advanced state. -/
theorem clearScreenDarkensEveryPixel : Obligations.ClearScreenDarkensEveryPixel :=
  fun s => ⟨s.advance.setFb .dark, rfl,
    fun y x hy hx => (Framebuffer.dark.pixel_of_lt hy hx).symm.trans (Framebuffer.pixel_dark y x),
    rfl, rfl, fun _ => rfl, fun _ => rfl⟩

/-- Whatever value a lit cell has, it is not that of a dark one (R205). -/
theorem litCell_ne_zero : Config.litCell ≠ 0 := by
  intro h
  have htoNat : (Config.litCellPred.val + 1) % 2 ^ 32 = 0 := congrArg BitVec.toNat h
  have hlt := Config.litCellPred.isLt
  omega

/-- Settles O9: cell y * 64 + x shows the pixel with quotient y and remainder x. -/
theorem framebufferReadoutIsRowMajor : Obligations.FramebufferReadoutIsRowMajor := by
  intro s
  refine ⟨by rw [State.readFramebuffer, List.length_map, List.length_range]; rfl, fun y x hy hx => ?_⟩
  have hcell : y * 64 + x < 32 * 64 := by omega
  have hrow : (y * 64 + x) / 64 = y := by omega
  have hcol : (y * 64 + x) % 64 = x := by omega
  refine ⟨if s.fb.pixel y x then Config.litCell else 0, ?_, ?_⟩
  · simp only [State.readFramebuffer, Config.fbHeight, Config.fbWidth, List.getElem?_map,
      List.getElem?_range hcell, Option.map_some, hrow, hcol]
  · rw [← s.fb.pixel_of_lt hy hx]
    split
    case isTrue hlit => exact iff_of_true litCell_ne_zero hlit
    case isFalse hdark => exact iff_of_false (fun hne => hne rfl) hdark

/-! ### What DXYN answers -/

/-- The first fault of DXYN: some sprite byte lies above memory (D3). -/
abbrev State.SpriteLeavesMemory (s : State) (n : Nibble) : Prop :=
  n.toNat > 0 ∧ s.index.toNat + n.toNat - 1 > 4095

/-- The second fault of DXYN: the sprite passes the right or the bottom edge (D5). -/
abbrev State.SpriteLeavesGrid (s : State) (x y : RegNum) (n : Nibble) : Prop :=
  n.toNat > 0 ∧ ((s.reg x).toNat % 64 + 7 > 63 ∨ (s.reg y).toNat % 64 + n.toNat - 1 > 31)

/-- Neither fault of DXYN; a sprite of no row always fits. -/
structure State.SpriteFits (s : State) (x y : RegNum) (n : Nibble) : Prop where
  inMemory : ¬ s.SpriteLeavesMemory n
  inGrid : ¬ s.SpriteLeavesGrid x y n

/-- The sprite bytes at `index` (R202). -/
def State.spriteBytes (s : State) (n : Nibble) : List Byte := s.memory.bytes s.dataAddress n.toNat

/-- What DXYN leaves when its sprite fits (R202). -/
def State.spriteDrawn (s : State) (x y : RegNum) (n : Nibble) : State :=
  s.advance.drawSprite x y (s.spriteBytes n)

theorem accessInRange_sprite_iff (s : State) (n : Nibble) :
    accessInRange s.dataAddress n.toNat = true ↔ ¬ s.SpriteLeavesMemory n := by
  rw [accessInRange_iff, State.dataAddress, Config.memSize, State.SpriteLeavesMemory]
  omega

theorem leavesGrid_sprite_iff (s : State) (x y : RegNum) (n : Nibble) :
    leavesGrid (s.drawRow y) (s.drawColumn x) n.toNat = true ↔ s.SpriteLeavesGrid x y n :=
  decide_eq_true_iff

section
variable {s : State} {x y : RegNum} {n : Nibble}

theorem exec_opDXYN_of_leavesMemory (h : s.SpriteLeavesMemory n) :
    exec (.opDXYN x y n) s = .next (s.raiseFault .memReadOob) := by
  change execDXYN x y n s = _
  rw [execDXYN, Memory.load, if_neg fun hr => (accessInRange_sprite_iff s n).1 hr h]
  rfl

theorem exec_opDXYN_of_leavesGrid (hm : ¬ s.SpriteLeavesMemory n) (h : s.SpriteLeavesGrid x y n) :
    exec (.opDXYN x y n) s = .next (s.raiseFault .drawOob) := by
  change execDXYN x y n s = _
  simp only [execDXYN, Memory.load, if_pos ((accessInRange_sprite_iff s n).2 hm),
    if_pos ((leavesGrid_sprite_iff s x y n).2 h), commit]

theorem exec_opDXYN_of_fits (h : s.SpriteFits x y n) :
    exec (.opDXYN x y n) s = .next (s.spriteDrawn x y n) := by
  change execDXYN x y n s = _
  simp only [execDXYN, Memory.load, if_pos ((accessInRange_sprite_iff s n).2 h.inMemory),
    if_neg (mt (leavesGrid_sprite_iff s x y n).1 h.inGrid), commit]
  rfl

/-- A draw that leaves no fault drew its sprite. -/
theorem spriteFits_of_exec {t : State} (h : exec (.opDXYN x y n) s = .next t) (ht : t.fault = .none) :
    s.SpriteFits x y n ∧ t = s.spriteDrawn x y n := by
  by_cases hm : s.SpriteLeavesMemory n
  · cases (exec_opDXYN_of_leavesMemory hm).symm.trans h
    cases ht
  · by_cases hg : s.SpriteLeavesGrid x y n
    · cases (exec_opDXYN_of_leavesGrid hm hg).symm.trans h
      cases ht
    · have hfits : s.SpriteFits x y n := ⟨hm, hg⟩
      cases (exec_opDXYN_of_fits hfits).symm.trans h
      exact ⟨hfits, rfl⟩

/-! ### What a draw leaves -/

/-- The sprite bit over the pixel at row `py`, column `px`; off beside the sprite. -/
def State.spriteOver (s : State) (x y : RegNum) (n : Nibble) (py px : Nat) : Bool :=
  spriteAt (s.drawRow y) (s.drawColumn x) (s.spriteBytes n) py px

/-- Some 1 bit of the sprite falls on a pixel that has the value `b`. -/
def State.SpriteMeets (s : State) (x y : RegNum) (n : Nibble) (b : Bool) : Prop :=
  ∃ row col, row < n.toNat ∧ col < 8 ∧
    s.fb.pixel (s.drawRow y + row) (s.drawColumn x + col) = b ∧ sprite s row col = true

/-- The framebuffer after a draw and whether it collided. -/
def State.drawing (s : State) (x y : RegNum) (n : Nibble) : Drawing :=
  Drawing.rows { fb := s.fb, collision := false } (s.drawRow y) (s.drawColumn x) (s.spriteBytes n)

theorem State.length_spriteBytes (s : State) (n : Nibble) : (s.spriteBytes n).length = n.toNat :=
  Memory.length_bytes _ _ _

/-- Every sprite byte lies inside memory, so it is the one claims read. -/
theorem spriteBit_spriteBytes (h : s.SpriteFits x y n) {row : Nat} (hr : row < n.toNat)
    (hlen : row < (s.spriteBytes n).length) (col : Nat) :
    spriteBit (s.spriteBytes n)[row] col = sprite s row col := by
  have hin := h.inMemory
  have hread : s.memory.read (s.index.toNat + row) = some (s.memory.byte (s.index.toNat + row)) :=
    Memory.read_of_lt _ (show s.index.toNat + row < 4096 by omega)
  rw [sprite, hread, spriteBit, Option.getD_some]
  exact congrArg (fun b : Byte => b.getLsbD (7 - col)) (Memory.getElem_bytes _ _ _ hlen)

theorem State.spriteOver_inside (h : s.SpriteFits x y n) {row col : Nat} (hr : row < n.toNat) (hc : col < 8) :
    s.spriteOver x y n (s.drawRow y + row) (s.drawColumn x + col) = sprite s row col := by
  have hlen : row < (s.spriteBytes n).length := by rwa [s.length_spriteBytes]
  rw [← spriteBit_spriteBytes h hr hlen]
  simp [State.spriteOver, spriteAt, hc, hlen]

theorem State.spriteOver_outside {py px : Nat}
    (h : ¬ (s.drawRow y ≤ py ∧ py < s.drawRow y + n.toNat ∧ s.drawColumn x ≤ px ∧ px < s.drawColumn x + 8)) :
    s.spriteOver x y n py px = false := by
  rw [State.spriteOver, spriteAt]
  by_cases hbeside : s.drawRow y ≤ py ∧ s.drawColumn x ≤ px ∧ px < s.drawColumn x + 8
  · have hbelow : (s.spriteBytes n).length ≤ py - s.drawRow y := by
      rw [s.length_spriteBytes]
      omega
    rw [List.getElem?_eq_none hbelow, Bool.and_false]
  · rw [decide_eq_false hbeside, Bool.false_and]

/-- A draw is exclusive or on every pixel, and collides where a 1 bit meets a lit one (R202). -/
theorem State.drawing_spec (h : s.SpriteFits x y n) :
    (∀ py px, (s.drawing x y n).fb.pixel py px = (s.fb.pixel py px ^^ s.spriteOver x y n py px)) ∧
      ((s.drawing x y n).collision = true ↔ s.SpriteMeets x y n true) := by
  have hlen := s.length_spriteBytes n
  by_cases hn : n.toNat = 0
  · have hnil : s.spriteBytes n = [] := List.eq_nil_of_length_eq_zero (hlen.trans hn)
    simp [State.drawing, State.spriteOver, State.SpriteMeets, hnil, Drawing.rows, spriteAt, hn]
  · have hgrid := h.inGrid
    have hrows : s.drawRow y + (s.spriteBytes n).length ≤ 32 := by
      rw [hlen, State.drawRow, Config.drawYMod]
      omega
    have hcols : s.drawColumn x + 8 ≤ 64 := by
      rw [State.drawColumn, Config.drawXMod]
      omega
    obtain ⟨hpixel, hcollision⟩ :=
      Drawing.rows_spec (s.spriteBytes n) { fb := s.fb, collision := false } hrows hcols
    refine ⟨hpixel, hcollision.trans ⟨?_, ?_⟩⟩
    · rintro (hfalse | ⟨row, hr, col, hc, hlit, hbit⟩)
      · cases hfalse
      · exact ⟨row, col, hlen ▸ hr, hc, hlit, spriteBit_spriteBytes h (hlen ▸ hr) hr col ▸ hbit⟩
    · rintro ⟨row, col, hr, hc, hlit, hbit⟩
      have hr' : row < (s.spriteBytes n).length := hlen.symm ▸ hr
      exact .inr ⟨row, hr', col, hc, hlit, (spriteBit_spriteBytes h hr hr' col).trans hbit⟩

theorem State.pixel_spriteDrawn (h : s.SpriteFits x y n) (py px : Nat) :
    (s.spriteDrawn x y n).fb.pixel py px = (s.fb.pixel py px ^^ s.spriteOver x y n py px) :=
  (State.drawing_spec h).1 py px

theorem State.pixel_spriteDrawn_inside (h : s.SpriteFits x y n) {row col : Nat} (hr : row < n.toNat)
    (hc : col < 8) :
    (s.spriteDrawn x y n).fb.pixel (s.drawRow y + row) (s.drawColumn x + col) =
      (s.fb.pixel (s.drawRow y + row) (s.drawColumn x + col) ^^ sprite s row col) := by
  rw [State.pixel_spriteDrawn h, State.spriteOver_inside h hr hc]

theorem State.pixel_spriteDrawn_outside (h : s.SpriteFits x y n) {py px : Nat}
    (hout : ¬ (s.drawRow y ≤ py ∧ py < s.drawRow y + n.toNat ∧
      s.drawColumn x ≤ px ∧ px < s.drawColumn x + 8)) :
    (s.spriteDrawn x y n).fb.pixel py px = s.fb.pixel py px := by
  rw [State.pixel_spriteDrawn h, State.spriteOver_outside hout, Bool.xor_false]

theorem State.flag_spriteDrawn : (s.spriteDrawn x y n).reg 0xF = flagByte (s.drawing x y n).collision :=
  State.reg_setReg_same _ vf _

theorem State.flag_spriteDrawn_eq_one_iff (h : s.SpriteFits x y n) :
    (s.spriteDrawn x y n).reg 0xF = 1 ↔ s.SpriteMeets x y n true := by
  rw [State.flag_spriteDrawn, ← (State.drawing_spec h).2]
  cases (s.drawing x y n).collision <;> decide

theorem State.flag_spriteDrawn_eq_zero (h : s.SpriteFits x y n) (hno : ¬ s.SpriteMeets x y n true) :
    (s.spriteDrawn x y n).reg 0xF = 0 := by
  rw [State.flag_spriteDrawn, Bool.eq_false_of_not_eq_true (mt (State.drawing_spec h).2.1 hno)]
  rfl

theorem State.reg_spriteDrawn {r : RegNum} (hr : r ≠ 0xF) : (s.spriteDrawn x y n).reg r = s.reg r :=
  State.reg_setReg_ne _ _ hr

theorem State.drawRow_spriteDrawn (hy : y ≠ 0xF) : (s.spriteDrawn x y n).drawRow y = s.drawRow y := by
  rw [State.drawRow, State.reg_spriteDrawn hy, State.drawRow]

theorem State.drawColumn_spriteDrawn (hx : x ≠ 0xF) : (s.spriteDrawn x y n).drawColumn x = s.drawColumn x := by
  rw [State.drawColumn, State.reg_spriteDrawn hx, State.drawColumn]

end

/-- Settles O49: the two faults in their order, then the lemmas about each part of what a draw leaves. -/
theorem drawSpriteXorsThePixels : Obligations.DrawSpriteXorsThePixels := by
  intro s x y n x0 y0
  split
  case isTrue hm => exact exec_opDXYN_of_leavesMemory hm
  case isFalse hm =>
    split
    case isTrue hg => exact exec_opDXYN_of_leavesGrid hm hg
    case isFalse hg =>
      have hfits : s.SpriteFits x y n := ⟨hm, hg⟩
      exact ⟨s.spriteDrawn x y n, exec_opDXYN_of_fits hfits, fun _ _ => State.pixel_spriteDrawn_inside hfits,
        fun _ _ => State.pixel_spriteDrawn_outside hfits, (State.flag_spriteDrawn_eq_one_iff hfits).2,
        State.flag_spriteDrawn_eq_zero hfits, rfl, fun _ => State.reg_spriteDrawn, rfl, fun _ => rfl⟩

/-! ### Consequences -/

section
variable {s : State} {x y : RegNum} {n : Nibble} (hx : x ≠ 0xF) (hy : y ≠ 0xF)
include hx hy

/-- A draw that does not write its own coordinates leaves a state in which the sprite still fits. -/
theorem State.SpriteFits.spriteDrawn (h : s.SpriteFits x y n) : (s.spriteDrawn x y n).SpriteFits x y n where
  inMemory := h.inMemory
  inGrid := by
    rw [State.SpriteLeavesGrid, State.reg_spriteDrawn hx, State.reg_spriteDrawn hy]
    exact h.inGrid

theorem State.spriteOver_spriteDrawn (py px : Nat) :
    (s.spriteDrawn x y n).spriteOver x y n py px = s.spriteOver x y n py px := by
  rw [State.spriteOver, State.drawRow_spriteDrawn hy, State.drawColumn_spriteDrawn hx]
  rfl

/-- Under a 1 bit the pixel was turned over, so it is lit now where it was dark before. -/
theorem spriteMeets_spriteDrawn_iff (h : s.SpriteFits x y n) :
    (s.spriteDrawn x y n).SpriteMeets x y n true ↔ s.SpriteMeets x y n false := by
  rw [State.SpriteMeets, State.drawRow_spriteDrawn hy, State.drawColumn_spriteDrawn hx]
  refine exists_congr fun row => exists_congr fun col => and_congr_right fun hr => and_congr_right fun hc =>
    and_congr_left fun (hbit : sprite s row col = true) => ?_
  rw [State.pixel_spriteDrawn_inside h hr hc, hbit, Bool.xor_true, Bool.not_eq_true']

end

/-- Settles O50: the second draw adds the same sprite by exclusive or. -/
theorem drawTwiceRestoresTheScreen : Obligations.DrawTwiceRestoresTheScreen := by
  intro s t x y n hf hx hy hexec ht
  obtain ⟨hfits, rfl⟩ := spriteFits_of_exec hexec ht
  have hfits' := hfits.spriteDrawn hx hy
  refine ⟨_, exec_opDXYN_of_fits hfits', hf, Framebuffer.eq_of_pixel_eq fun py px => ?_, ?_⟩
  · rw [State.pixel_spriteDrawn hfits', State.pixel_spriteDrawn hfits, State.spriteOver_spriteDrawn hx hy,
      Bool.xor_assoc, Bool.xor_self, Bool.xor_false]
  · rw [State.flag_spriteDrawn_eq_one_iff hfits', spriteMeets_spriteDrawn_iff hx hy hfits]
    exact exists_congr fun _ => exists_congr fun _ => and_congr_right fun _ => and_congr_right fun _ => and_comm

/-- Settles O51: the first row of a sprite that fits is below 32. -/
theorem rowModulusIsHarmless : Obligations.RowModulusIsHarmless := by
  intro s t x y n _ hexec ht hn
  have hgrid := (spriteFits_of_exec hexec ht).1.inGrid
  have hpos : n.toNat ≠ 0 := fun h => hn (BitVec.eq_of_toNat_eq h)
  omega

end Sys2Proof.Machine
end

section
/-! Keypad and timers (spec/44_keypad_timers.md): the skips on a key (O52), the wait for a key (O53) and the
timer transfers (O54). -/

namespace Sys2Proof.Machine

open Sys2Proof.Claims

theorem key_of_lt (s : State) {k : Nat} (hk : k < 16) : key s k = s.keypad[k] := dif_pos hk

/-- A number above 15 names no key. -/
theorem lt_of_key {s : State} {k : Nat} (h : key s k = true) : k < 16 := by
  by_contra hk
  rw [key, dif_neg hk] at h
  cases h

/-! ### The skips on a key -/

section
variable {s : State} {b : Byte} (f : Bool → State)

/-- An instruction that asks for a key above 15 faults (D6). -/
theorem commit_keyPressed_of_gt (h : 15 < b.toNat) :
    commit s ((s.keyPressed b).map f) = .next (s.raiseFault .keyOob) := by
  rw [State.keyPressed, dif_neg (Nat.not_lt_of_le h)]
  rfl

/-- An instruction that asks for one of the sixteen keys goes on with its latch. -/
theorem commit_keyPressed_of_le (h : b.toNat ≤ 15) :
    commit s ((s.keyPressed b).map f) = .next (f (key s b.toNat)) := by
  have hlt : b.toNat < 16 := Nat.lt_succ_of_le h
  rw [State.keyPressed, dif_pos hlt, key_of_lt s hlt]
  rfl

end

/-- The skip of EXA1. -/
theorem State.pc_skipIf_advance_not (s : State) (c : Bool) :
    (s.advance.skipIf (!c)).pc = if c then s.pc + 2 else s.pc + 4 := by
  rw [State.pc_skipIf_advance]
  cases c <;> rfl

/-- Settles O52: above 15 both fault; otherwise both are skips on the latch of key V[X]. -/
theorem keyTestsSkip : Obligations.KeyTestsSkip := by
  intro s x
  split
  case isTrue h => exact ⟨commit_keyPressed_of_gt _ h, commit_keyPressed_of_gt _ h⟩
  case isFalse h =>
    have hle : (s.reg x).toNat ≤ 15 := Nat.le_of_not_lt h
    exact ⟨⟨_, commit_keyPressed_of_le _ hle, s.pc_skipIf_advance _, pcFrame_skipIf_advance s _⟩,
      ⟨_, commit_keyPressed_of_le _ hle, s.pc_skipIf_advance_not _, pcFrame_skipIf_advance s _⟩⟩

/-! ### The wait for a key -/

/-- The key `k` is pressed and none below it is (R222). -/
structure IsLeastKey (s : State) (k : Nat) : Prop where
  pressed : key s k = true
  noneBelow : ∀ j, j < k → key s j = false

/-- Of two pressed keys the greater one is not the least. -/
theorem IsLeastKey.le {s : State} {j k : Nat} (hk : IsLeastKey s k) (hj : key s j = true) : k ≤ j := by
  by_contra hlt
  rw [hk.noneBelow j (Nat.lt_of_not_le hlt)] at hj
  cases hj

theorem IsLeastKey.unique {s : State} {j k : Nat} (hj : IsLeastKey s j) (hk : IsLeastKey s k) : j = k :=
  Nat.le_antisymm (hj.le hk.pressed) (hk.le hj.pressed)

/-- The scan of the sixteen latches, in terms of the keys that claims read. -/
theorem State.firstPressedKey_cases (s : State) :
    (s.firstPressedKey = none ∧ ∀ k, k < 16 → key s k = false) ∨
      ∃ k, s.firstPressedKey = some (BitVec.ofNat 8 k) ∧ IsLeastKey s k := by
  rcases leastPressed_cases s.keypad 16 (Nat.le_refl _) with ⟨hnone, hall⟩ | ⟨k, hk, hsome, hpressed, hbelow⟩
  · exact .inl ⟨hnone, fun j hj => (key_of_lt s hj).trans (hall j hj (Nat.zero_le _))⟩
  · refine .inr ⟨k, hsome, (key_of_lt s hk).trans hpressed, fun j hjk => ?_⟩
    have hj : j < 16 := Nat.lt_trans hjk hk
    exact (key_of_lt s hj).trans (hbelow j hj (Nat.zero_le _) hjk)

theorem State.firstPressedKey_eq_none {s : State} (h : ∀ k, key s k = false) : s.firstPressedKey = none := by
  rcases s.firstPressedKey_cases with ⟨hnone, _⟩ | ⟨k, _, hk⟩
  · exact hnone
  · exact absurd hk.pressed (Bool.eq_false_iff.1 (h k))

theorem State.firstPressedKey_eq_some {s : State} {k : Nat} (h : IsLeastKey s k) :
    s.firstPressedKey = some (BitVec.ofNat 8 k) := by
  rcases s.firstPressedKey_cases with ⟨_, hall⟩ | ⟨j, hsome, hj⟩
  · exact absurd h.pressed (Bool.eq_false_iff.1 (hall k (lt_of_key h.pressed)))
  · rw [hsome, hj.unique h]

/-- With no key pressed the step back of FX0A takes back the advance. -/
theorem exec_opFX0A_of_no_key {s : State} (h : ∀ k, key s k = false) (x : RegNum) :
    exec (.opFX0A x) s = .next s := by
  have hpc : s.advance.pc - 2 = s.pc := BitVec.add_sub_cancel _ _
  change execFX0A x s = _
  simp only [execFX0A, State.firstPressedKey_eq_none h, hpc]
  rfl

theorem exec_opFX0A_of_isLeastKey {s : State} {k : Nat} (h : IsLeastKey s k) (x : RegNum) :
    exec (.opFX0A x) s = .next (s.advance.setReg x (BitVec.ofNat 8 k)) := by
  change execFX0A x s = _
  simp only [execFX0A, State.firstPressedKey_eq_some h]

/-- Settles O53: the number of a key is below 16, so it fits in the byte that FX0A writes. -/
theorem keyWaitTakesTheLeastKey : Obligations.KeyWaitTakesTheLeastKey := by
  intro s x
  refine ⟨fun h => exec_opFX0A_of_no_key h x, fun k hk hbelow => ?_⟩
  have hbyte : k < 256 := Nat.lt_trans (lt_of_key hk) (by decide)
  refine ⟨_, exec_opFX0A_of_isLeastKey ⟨hk, hbelow⟩ x, ?_, regFrame_setReg_advance s x _⟩
  rw [State.reg_setReg_same, BitVec.toNat_ofNat, Nat.mod_eq_of_lt hbyte]

/-! ### The timers -/

/-- Settles O54: each transfer is one write in the advanced state, which leaves the other fields as they are. -/
theorem timerTransfers : Obligations.TimerTransfers :=
  fun s x =>
    ⟨⟨_, rfl, State.reg_setReg_same _ x _, regFrame_setReg_advance s x _⟩,
      ⟨s.advance.setDelayTimer (s.reg x), rfl, rfl, rfl, rfl, fun _ => rfl, fun _ => rfl⟩,
      ⟨s.advance.setSoundTimer (s.reg x), rfl, rfl, rfl, rfl, fun _ => rfl, fun _ => rfl⟩⟩

end Sys2Proof.Machine
end

section
/-! Faults and the tick (spec/60_exceptions.md): the halted machine (O12), what a faulting Cycle writes (O13) and
which fault each Cycle raises (O14), and the timers at the end of a Cycle (O16). -/

namespace Sys2Proof.Machine

open Sys2Proof.Claims

/-! ### The halted machine -/

/-- The host's keypad write, where one is pending, takes it off the list; it writes nothing else (R30). -/
theorem State.presentKeys_eq (s : State) :
    s.presentKeys = { s with keypad := s.presentKeys.keypad, keypadInput := s.keypadInput.tail } := by
  cases h : s.keypadInput with
  | nil => rw [s.presentKeys_nil h, List.tail_nil, ← h]
  | cons k ks => rw [s.presentKeys_cons h, List.tail_cons]

theorem step_of_halted {s : State} (hf : s.fault ≠ .none) : step s = .next s.presentKeys :=
  (CycleTo.halted (s := s.presentKeys) (by rwa [s.presentKeys_fault])).cycle_eq

/-- Where a step answers the state it started from, so does any number of steps. -/
theorem run_eq_of_step_eq_self {M : Host.Core} {s : M.State} (h : M.step s = .next s) (k : Nat) :
    M.run k s = .next s := by
  induction k with
  | zero => rfl
  | succ k ih =>
    rw [Host.Core.run, h]
    exact ih

/-- Settles O12: the step of a halted machine is the host's keypad write, which does nothing when none is
pending. -/
theorem haltedMachineChangesNothing : Obligations.HaltedMachineChangesNothing := by
  intro s hf
  have hstep : step s = .next s.presentKeys := step_of_halted hf
  refine ⟨hstep, s.presentKeys_eq, fun k hin => ?_⟩
  rw [s.presentKeys_nil hin] at hstep
  exact run_eq_of_step_eq_self (M := Sys2Proof.core) hstep k

/-! ### A faulting Cycle -/

/-- An instruction that leaves a fault where there was none raised it, and wrote nothing else (R10, R242). -/
theorem Effect.eq_raiseFault {i : Instr} {s t : State} (h : Effect s i t) (hs : s.fault = .none)
    (ht : t.fault ≠ .none) : t = s.raiseFault t.fault := by
  cases h with
  | raised => rfl
  | _ => exact absurd hs ht

/-- The whole Cycle likewise: its end adds nothing to a fault. -/
theorem CycleTo.eq_raiseFault {s t : State} (h : CycleTo s t) (hs : s.fault = .none) (ht : t.fault ≠ .none) :
    t = s.raiseFault t.fault := by
  cases h with
  | halted hf => exact absurd hs hf
  | fetchFault => rfl
  | executed hf hp hx =>
    rw [State.finish_fault] at ht
    rw [State.finish_of_fault _ ht]
    exact (Effect.of_exec hx).eq_raiseFault hs ht

/-- Settles O13: the Cycle starts from the state after the keypad write, which leaves `fault` alone. -/
theorem faultingCycleWritesOnlyFault : Obligations.FaultingCycleWritesOnlyFault :=
  fun s _ hs h ht => (CycleTo.of_step h).eq_raiseFault (s.presentKeys_fault.trans hs) ht

/-! ### Which fault a Cycle raises -/

theorem code_eq_zero {t : State} (ht : t.fault = .none) : t.fault.code.toNat = 0 := by
  rw [ht]
  rfl

/-- The code an instruction leaves that raises `k` exactly where `p` holds. -/
theorem code_eq_ite {p : Prop} [Decidable p] {s t : State} {r : Result} (k : FaultKind) (hx : r = .next t)
    (hraise : p → r = .next (s.raiseFault k)) (hok : ¬ p → ∃ u, r = .next u ∧ u.fault = .none) :
    t.fault.code.toNat = if p then k.code.toNat else 0 := by
  split
  case isTrue h =>
    cases (hraise h).symm.trans hx
    rfl
  case isFalse h =>
    obtain ⟨u, hu, hnone⟩ := hok h
    cases hu.symm.trans hx
    exact code_eq_zero hnone

/-- The wait for a key does not fault, whether it waits or not (R222). -/
theorem fault_of_execFX0A {s t : State} {x : RegNum} (h : execFX0A x s = .next t) : t.fault = s.fault := by
  unfold execFX0A at h
  split at h
  all_goals
    cases h
    rfl

/-- The code DXYN leaves: the sprite bytes are tested before the grid (R244). -/
theorem code_of_exec_opDXYN {s t : State} {x y : RegNum} {n : Nibble} (hs : s.fault = .none)
    (hx : exec (.opDXYN x y n) s = .next t) :
    t.fault.code.toNat = if s.SpriteLeavesMemory n then 4 else if s.SpriteLeavesGrid x y n then 6 else 0 := by
  split
  case isTrue hm =>
    cases (exec_opDXYN_of_leavesMemory hm).symm.trans hx
    rfl
  case isFalse hm =>
    exact code_eq_ite .drawOob hx (exec_opDXYN_of_leavesGrid hm)
      fun hg => ⟨_, exec_opDXYN_of_fits ⟨hm, hg⟩, hs⟩

/-- A sprite eight columns wide leaves the grid from column 57 on, the form of the bound in the table (R241). -/
theorem spriteLeavesGrid_iff (s : State) (x y : RegNum) (n : Nibble) :
    s.SpriteLeavesGrid x y n ↔
      n.toNat > 0 ∧ ((s.reg x).toNat % 64 > 56 ∨ (s.reg y).toNat % 64 + n.toNat > 32) := by
  rw [State.SpriteLeavesGrid]
  omega

/-- The code of every instruction that was fetched is the one the table gives (R241). -/
theorem code_of_exec {s t : State} (hs : s.fault = .none) (hp : s.pc.toNat ≤ 4094)
    (hx : exec (decodeWord (wordAt s)) s = .next t) : t.fault.code.toNat = faultCode s := by
  have hsp : s.sp.val < 17 := s.sp.isLt
  rw [faultCode, if_neg (Nat.not_lt_of_le hp)]
  generalize decodeWord (wordAt s) = i at hx ⊢
  cases i with
  | op2NNN nnn =>
    exact code_eq_ite .stackOverflow hx (fun h => exec2NNN_of_not_lt nnn (by omega))
      fun h => ⟨_, exec2NNN_of_lt nnn (by omega), hs⟩
  | op00EE =>
    exact code_eq_ite .stackUnderflow hx (fun h => exec00EE_of_not_pos (by omega))
      fun h => ⟨_, exec00EE_of_pos (by omega), hs⟩
  | opFX65 x =>
    exact code_eq_ite .memReadOob hx exec_opFX65_of_gt
      fun h => ⟨_, exec_opFX65_of_le (Nat.le_of_not_lt h), hs⟩
  | opFX33 x =>
    exact code_eq_ite .memWriteOob hx (commit_store_of_gt rfl)
      fun h => ⟨_, commit_store_of_le rfl (Nat.le_of_not_lt h), hs⟩
  | opFX55 x =>
    exact code_eq_ite .memWriteOob hx (commit_store_of_gt (s.length_regBlock x))
      fun h => ⟨_, commit_store_of_le (s.length_regBlock x) (Nat.le_of_not_lt h), hs⟩
  | opDXYN x y n =>
    rw [code_of_exec_opDXYN hs hx]
    simp only [spriteLeavesGrid_iff]
  | opEX9E | opEXA1 =>
    exact code_eq_ite .keyOob hx (commit_keyPressed_of_gt _)
      fun h => ⟨_, commit_keyPressed_of_le _ (Nat.le_of_not_lt h), (State.skipIf_fault _ _).trans hs⟩
  | op3XKK | op4XKK | op5XY0 | op9XY0 =>
    cases hx
    exact code_eq_zero ((State.skipIf_fault _ _).trans hs)
  | opFX0A => exact code_eq_zero ((fault_of_execFX0A hx).trans hs)
  | _ =>
    cases hx
    exact code_eq_zero hs

theorem CycleTo.code_eq {s t : State} (h : CycleTo s t) (hs : s.fault = .none) :
    t.readFault.toNat = faultCode s := by
  cases h with
  | halted hf => exact absurd hs hf
  | fetchFault hf hp => exact (if_pos hp).symm
  | executed hf hp hx =>
    rw [State.readFault, State.finish_fault]
    exact code_of_exec hs hp hx

/-- No condition of the table reads the keypad. -/
theorem faultCode_presentKeys (s : State) : faultCode s.presentKeys = faultCode s := by
  simp only [faultCode, wordAt_presentKeys, State.presentKeys_pc, State.presentKeys_sp, State.presentKeys_index,
    State.reg_presentKeys]

/-- Settles O14: the fetch has its own code, and an instruction that was fetched that of its row. -/
theorem faultKindsAreExactlyTheTable : Obligations.FaultKindsAreExactlyTheTable := by
  intro s hs
  obtain ⟨t, h⟩ := exists_cycleTo s.presentKeys
  exact ⟨t, h.cycle_eq, (h.code_eq (s.presentKeys_fault.trans hs)).trans (faultCode_presentKeys s)⟩

/-! ### The tick -/

theorem delayTimer_of_exec_opFX15 {s t : State} {x : RegNum} (hx : exec (.opFX15 x) s = .next t) :
    t.delayTimer = s.reg x := by
  cases hx
  rfl

theorem soundTimer_of_exec_opFX18 {s t : State} {x : RegNum} (hx : exec (.opFX18 x) s = .next t) :
    t.soundTimer = s.reg x := by
  cases hx
  rfl

/-- The tick is the last write to either timer (R248, R249). -/
theorem State.toNat_timers_finish {t : State} (w : Word) (ht : t.fault = .none) :
    (t.finish w).delayTimer.toNat = t.delayTimer.toNat - 1 ∧
      (t.finish w).soundTimer.toNat = t.soundTimer.toNat - 1 := by
  rw [State.finish_of_none w ht]
  exact ⟨toNat_tickTimer _, toNat_tickTimer _⟩

/-- A Cycle that leaves a fault, halted or faulting, leaves both timers alone (R242, R243). -/
theorem CycleTo.timers_eq {s t : State} (h : CycleTo s t) (ht : t.fault ≠ .none) :
    t.delayTimer = s.delayTimer ∧ t.soundTimer = s.soundTimer := by
  by_cases hs : s.fault = .none
  · rw [h.eq_raiseFault hs ht]
    exact ⟨rfl, rfl⟩
  · cases h with
    | halted => exact ⟨rfl, rfl⟩
    | fetchFault hf | executed hf => exact absurd hf hs

/-- Settles O16: without a fault the word was executed, and the tick finds what FX15 or FX18 wrote, or else the
value from before. -/
theorem timersTickOncePerCycle : Obligations.TimersTickOncePerCycle := by
  intro s t h
  have hc := CycleTo.of_step h
  split
  case isTrue ht =>
    cases hc with
    | halted hf => exact absurd ht hf
    | fetchFault => cases ht
    | executed hf hp hx =>
      rw [State.finish_fault] at ht
      obtain ⟨hdelay, hsound⟩ := State.toNat_timers_finish (wordAt s.presentKeys) ht
      rw [wordAt_presentKeys] at hx
      rw [hdelay, hsound]
      constructor
      · split
        case h_1 x hi => rw [delayTimer_of_exec_opFX15 (hi ▸ hx), State.reg_presentKeys]
        case h_2 hne =>
          rw [(Effect.of_exec hx).delayTimer_eq.resolve_right fun ⟨x, hi⟩ => hne x hi,
            State.presentKeys_delayTimer]
      · split
        case h_1 x hi => rw [soundTimer_of_exec_opFX18 (hi ▸ hx), State.reg_presentKeys]
        case h_2 hne =>
          rw [(Effect.of_exec hx).soundTimer_eq.resolve_right fun ⟨x, hi⟩ => hne x hi,
            State.presentKeys_soundTimer]
  case isFalse ht =>
    obtain ⟨hdelay, hsound⟩ := hc.timers_eq ht
    exact ⟨hdelay.trans s.presentKeys_delayTimer, hsound.trans s.presentKeys_soundTimer⟩

end Sys2Proof.Machine
end

section
/-! The host's Load (R272, R273): the two branches of its size test, and the copy it makes (O7). -/

namespace Sys2Proof.Machine

theorem State.load_of_le (s : State) {bytes : List Byte} (h : bytes.length ≤ Config.maxRom) :
    s.load bytes = some (s.setMemory (s.memory.putBytes Config.programBase bytes)) :=
  if_pos (decide_eq_true h)

theorem State.load_of_gt (s : State) {bytes : List Byte} (h : Config.maxRom < bytes.length) :
    s.load bytes = none :=
  if_neg fun hwf => Nat.not_le_of_lt h (of_decide_eq_true hwf)

/-- MAX_ROM is the space from 0x200 to the end of memory (R6, R272). -/
theorem programBase_add_le_memSize {n : Nat} (h : n ≤ Config.maxRom) : Config.programBase + n ≤ Config.memSize :=
  Nat.add_le_add_left h Config.programBase

/-- Bytes put inside memory are read back, each from its own address. -/
theorem Memory.read_putBytes_inside {m : Memory} {a : Nat} {bs : List Byte} (hwf : m.wf = true)
    (h : a + bs.length ≤ Config.memSize) {i : Nat} (hi : i < bs.length) :
    (m.putBytes a bs).read (a + i) = some bs[i] :=
  Memory.read_eq_some_iff.2
    ⟨Nat.lt_of_lt_of_le (Nat.add_lt_add_left hi a) h, Memory.byte_putBytes_inside hwf h hi⟩

/-- Settles O7: a program of at most MAX_ROM bytes ends inside memory, so each of its bytes is read back, and a
longer one fails the size test. -/
theorem loadCopiesOrRejects : Obligations.LoadCopiesOrRejects := by
  intro s bytes hwf
  split
  case isTrue h =>
    have hin : Config.programBase + bytes.length ≤ Config.memSize := programBase_add_le_memSize h
    exact ⟨_, s.load_of_le h, fun _ hi => Memory.read_putBytes_inside hwf hin hi,
      fun _ ha => Memory.read_congr (Memory.byte_putBytes_outside bytes s.memory ha), rfl,
      Memory.putBytes_font _ _ _⟩
  case isFalse h => exact s.load_of_gt (Nat.lt_of_not_le h)

end Sys2Proof.Machine
end
